-- ==== Sys2Proof/Word.lean ====
section
/-! DEFINITION. The two word types of the block: a byte (8 bits) and a `u16` (16 bits), both unsigned
(spec/00_scope.md R11). Bit 0 is the least significant bit. -/

namespace Sys2Proof

/-- A byte, 0 to 255 (R11). -/
abbrev Byte := BitVec 8

/-- A `u16`, 0 to 65535 (R11). -/
abbrev U16 := BitVec 16

end Sys2Proof
end

