-- ==== Sys2Proof/Config.lean ====
section
/-! DEFINITION. The configuration of a block instance (spec/00_scope.md R6 to R8): a record of the named
parameters, which no operation writes. The source gives a value for none of them but `RSVD`. -/

namespace Sys2Proof

/-- Which length bytes the decoder feeds to the CRC after a clamp (R8, spec/90_conflicts.md C7). -/
inductive CrcLenSrc where
  | clamped
  | wire
deriving DecidableEq, Repr

/-- The parameters of R8. The capacities are plain integers, so that an ill-formed configuration can be
written down and refused (R7). -/
structure Config where
  /-- `CAP`, the ring's capacity in bytes. -/
  cap : Nat
  /-- `RX_CAP`, the receiver's payload capacity. -/
  rxCap : Nat
  /-- `TX_CAP`, the outgoing payload capacity. -/
  txCap : Nat
  /-- `SOF`, the start marker. -/
  sof : Byte
  /-- `T_ACK`. -/
  tAck : Byte
  /-- `T_NAK`. -/
  tNak : Byte
  /-- `T_ACKABORT`. -/
  tAckAbort : Byte
  /-- `T_CMD`. -/
  tCmd : Byte
  /-- `T_DATA`. -/
  tData : Byte
  /-- `T_PING`. -/
  tPing : Byte
  /-- `T_PINGRESP`. -/
  tPingResp : Byte
  /-- `VER_BUGFIX`. -/
  verBugfix : Byte
  /-- `VER_MINOR`. -/
  verMinor : Byte
  /-- `VER_MAJOR`. -/
  verMajor : Byte
  /-- `NAME`. -/
  name : Byte
  /-- `RSVD`, fixed to zero by R7 clause 4. -/
  rsvd : U16
  /-- `PING_MARK`. -/
  pingMark : U16
  /-- `TIMEOUT_IMPL`: whether bounded waits can expire at all. -/
  timeoutImpl : Bool
  /-- `CRC_LEN_SRC`. -/
  crcLenSrc : CrcLenSrc
deriving DecidableEq, Repr

/-- `MASK = CAP - 1` (R8). -/
def Config.mask (c : Config) : Nat := c.cap - 1

/-- The default profile of R8 (PRESUMED: spec/93_implementation_defined.md G2, log 2; unsafe when read as
a fact about the hardware). -/
def defaultProfile : Config where
  cap := 64
  rxCap := 32
  txCap := 32
  sof := 0x5A
  tAck := 0xA1
  tNak := 0xA2
  tAckAbort := 0xA3
  tCmd := 0xA4
  tData := 0xA5
  tPing := 0xA6
  tPingResp := 0xA7
  verBugfix := 0x00
  verMinor := 0x02
  verMajor := 0x01
  name := 0x50
  rsvd := 0x0000
  pingMark := 0xEAAA
  timeoutImpl := true
  crcLenSrc := .clamped

end Sys2Proof
end

