-- ==== Sys2Proof/Machine/Memory.lean ====
section
/-! DEFINITION. A byte array as a list of (address, byte) cells in one canonical form: addresses strictly
rising. An unlisted byte has no value (spec/10_state.md R50: "a model gives the element no value"; log 4). The
three arrays of spec/20_memory.md R60 are three values of this type, so an index into one never reaches
another. -/

namespace Sys2Proof.Machine

/-- The cells of one byte array. -/
abbrev Memory := List Host.Cell

/-- `m.wf`: the canonical form, addresses strictly rising. -/
abbrev Memory.wf (m : Memory) : Prop := List.Pairwise (fun x y : Host.Cell => x.1 < y.1) m

/-- The byte at an address, `none` where nothing was written. -/
def Memory.get : Memory → Nat → Option Byte
  | [], _ => none
  | (k, b) :: m, a => if k = a then some b else Memory.get m a

/-- Write one byte, keeping the canonical form (R61). -/
def Memory.put : Memory → Nat → Byte → Memory
  | [], a, v => [(a, v)]
  | (k, b) :: m, a, v =>
    if a < k then (a, v) :: (k, b) :: m
    else if a = k then (a, v) :: m
    else (k, b) :: Memory.put m a v

/-- Write a byte string at consecutive addresses, first byte first. -/
def Memory.putAll (m : Memory) (a : Nat) : List Byte → Memory
  | [] => m
  | v :: vs => Memory.putAll (Memory.put m a v) (a + 1) vs

end Sys2Proof.Machine
end

