-- ==== Sys2Proof/Syntax.lean ====
section
/-! DEFINITION. The operations of the block: one constructor of `Instr` for each of the 35 rows of
spec/opcode_table.json, with the operand forms of spec/30_encoding.md R91, R92. -/

namespace Sys2Proof

/-- The frame class a caller expects or sends: `CMD` or `DATA` (R92). -/
inductive FrameClass where
  | cmd
  | data
deriving DecidableEq, Repr

/-- The time-out selector of a call: `NONE` or `BOUNDED` (R92, R27). -/
inductive TmoSel where
  | none
  | bounded
deriving DecidableEq, Repr

/-- The output pointer of a `READ`: `VALID` or `NULL` (R92). -/
inductive Dst where
  | valid
  | null
deriving DecidableEq, Repr

/-- The packet types of the 2-byte sync layout (R82). -/
inductive SyncType where
  | ack
  | nak
  | ackAbort
  | ping
deriving DecidableEq, Repr

/-- The fields of the 8-byte handshake record, in wire order (R86). -/
structure HandshakeRecord where
  bugfix : Byte
  minor : Byte
  major : Byte
  name : Byte
  rsvd : U16
  mark : U16
deriving DecidableEq, Repr

/-- One constructor per row of spec/opcode_table.json, in the table's order. -/
inductive Instr where
  /-- `ENQ b`, producer port (R111). -/
  | enq (b : Byte)
  /-- `EMPTY`, ring consumer port (R112). -/
  | empty
  /-- `AVAIL`, ring consumer port (R112). -/
  | avail
  /-- `DEQ`, ring consumer port (R113). -/
  | deq
  /-- `RDX n, tmo`, the fetch loop (R116). -/
  | rdx (n : Nat) (tmo : TmoSel)
  /-- `CRC_CFG p, i, ri, ro, x` (R131). -/
  | crcCfg (poly init : U16) (refin refout : Bool) (xorout : U16)
  /-- `CRC_ACC bs` (R132). -/
  | crcAcc (bs : List Byte)
  /-- `CRC_FIN` (R134). -/
  | crcFin
  /-- `READ exp, tmo, dst`, client port (R150). -/
  | read (exp : FrameClass) (tmo : TmoSel) (dst : Dst)
  /-- `WRITE cls, P, tmo`, client port (R180). -/
  | write (cls : FrameClass) (p : List Byte) (tmo : TmoSel)
  /-- `FINALIZE`, client port (R205). -/
  | finalize
  /-- `ABORT`, client port (R206, R207). -/
  | abort
  /-- `MAXPAY`, client port (R209). -/
  | maxpay
  /-- Stage step `R_SEEK` (R152). -/
  | rSeek
  /-- Stage step `R_TYPE` (R153 to R155). -/
  | rType
  /-- Stage step `R_LEN` (R156). -/
  | rLen
  /-- Stage step `R_CSUM` (R157, R158). -/
  | rCsum
  /-- Stage step `R_PAY` (R159). -/
  | rPay
  /-- Stage step `R_VERIFY` (R161 to R163). -/
  | rVerify
  /-- Stage step `W_SEEK` (R215). -/
  | wSeek
  /-- Stage step `W_TYPE` (R216, R217). -/
  | wType
  /-- The time-out draw (R118). -/
  | timeout
  /-- Internal procedure `Discharge` (R201). -/
  | discharge
  /-- Internal procedure `Respond` (R210). -/
  | respond
  /-- Internal procedure `SyncEmit(T)` (R182). -/
  | syncEmit (t : SyncType)
  /-- Internal procedure `BuildData(code(cls), P)` (R183). -/
  | buildData (cls : FrameClass) (p : List Byte)
  /-- Internal procedure `SendTxbuf` (R184). -/
  | sendTxbuf
  /-- Internal procedure `RespEmit` (R185). -/
  | respEmit
  /-- The wire frame `[SOF][T_ACK]` (R82, R87). -/
  | ack
  /-- The wire frame `[SOF][T_NAK]` (R82, R87). -/
  | nak
  /-- The wire frame `[SOF][T_ACKABORT]` (R82, R87). -/
  | ackAbort
  /-- The data-layout frame of type `T_CMD`: its checksum field and its payload, which gives the length (R83). -/
  | command (csum : U16) (payload : List Byte)
  /-- The data-layout frame of type `T_DATA` (R83). -/
  | data (csum : U16) (payload : List Byte)
  /-- The wire frame `[SOF][T_PING]` (R82, R87). -/
  | ping
  /-- The 10-byte response frame `[SOF][T_PINGRESP]` and its record (R86). -/
  | pingResponse (r : HandshakeRecord)
deriving DecidableEq, Repr

/-- Rows of format `internal`: procedures used inside steps, not callable from a port (R96). -/
def Instr.isInternal : Instr → Bool
  | .discharge => true
  | .respond => true
  | .syncEmit _ => true
  | .buildData _ _ => true
  | .sendTxbuf => true
  | .respEmit => true
  | .enq _ => false
  | .empty => false
  | .avail => false
  | .deq => false
  | .rdx _ _ => false
  | .crcCfg _ _ _ _ _ => false
  | .crcAcc _ => false
  | .crcFin => false
  | .read _ _ _ => false
  | .write _ _ _ => false
  | .finalize => false
  | .abort => false
  | .maxpay => false
  | .rSeek => false
  | .rType => false
  | .rLen => false
  | .rCsum => false
  | .rPay => false
  | .rVerify => false
  | .wSeek => false
  | .wType => false
  | .timeout => false
  | .ack => false
  | .nak => false
  | .ackAbort => false
  | .command _ _ => false
  | .data _ _ => false
  | .ping => false
  | .pingResponse _ => false

end Sys2Proof
end

