-- ==== Sys2Proof/Machine/State.lean ====
section
/-! DEFINITION. The state of the block (spec/10_state.md) as plain data, the reasons a step can stop, and the
state after reset (R50, spec/70_reset_and_hazards.md R260). -/

namespace Sys2Proof.Machine

/-- The sequencer's stage, `fg.stage` (R26). -/
inductive Stage where
  | idle
  | rSeek
  | rType
  | rLen
  | rCsum
  | rPay
  | rVerify
  | wSeek
  | wType
deriving DecidableEq, Repr

/-- The result codes of spec/60_exceptions.md R230, in the order of their numbers. -/
inductive Result where
  | ok
  | invalidArgument
  | timeout
  | protocolMismatch
  | abort
  | checksumMismatch
  | callerContractViolation
deriving DecidableEq, Repr

/-- What the last internal-port operation returned (R91; the model's own field, log 9). -/
inductive PortRet where
  /-- No port operation has returned a value yet. -/
  | nothing
  /-- `EMPTY`'s answer. -/
  | flag (v : Bool)
  /-- `AVAIL`'s answer. -/
  | count (n : Nat)
  /-- `DEQ`'s byte. -/
  | byte (b : Byte)
  /-- `RDX` ended `OK` with these bytes in its destination. -/
  | bytes (bs : List Byte)
  /-- `RDX` ended `Timeout`; these bytes stay consumed. -/
  | timedOut (bs : List Byte)
  /-- `CRC_FIN`'s value. -/
  | word (v : U16)
deriving DecidableEq, Repr

/-- An `RDX` transfer in progress (R116; the model's own field, log 10). -/
structure RdxTransfer where
  /-- Bytes wanted. -/
  want : Nat
  /-- The time-out selector. -/
  tmo : TmoSel
  /-- Bytes dequeued so far, oldest first. -/
  got : List Byte
deriving DecidableEq, Repr

/-- One choice of the environment (spec/00_scope.md R9, R13; log 6). -/
inductive Event where
  /-- `SEQ` is scheduled and takes whichever stage step is enabled (R95 `SEQ step`). -/
  | seq
  /-- An agent issues this operation: a producer, client or harness transaction, or the time-out draw. -/
  | issue (i : Instr)
  /-- The host sends these bytes on the line (R95 `HOST send`). -/
  | line (bs : List Byte)
  /-- The device resets (R261). -/
  | reset
deriving DecidableEq, Repr

/-- The byte arrays of R60. -/
inductive Space where
  | ring
  | rxbuf
  | txbuf
deriving DecidableEq, Repr

/-- Why the model stops with a fault. Neither can happen from reset (R60, R120, R264); both are safe. -/
inductive Fault where
  /-- An index outside its array: raised by an array access whose index the spec says cannot occur (R60).
  Safe. -/
  | outOfRange (sp : Space)
  /-- A read of a byte that nothing has written (R50, R120): raised by an array read. Safe. -/
  | unwritten (sp : Space)
deriving DecidableEq, Repr

/-- Why the model gives an operation no step in a state. -/
inductive Refusal where
  /-- Raised by an arm of `exec` without a meaning. Safe. -/
  | notModelled (mnemonic : String)
  /-- Raised by `instantiate` and `step` for a configuration that fails R7 (R110, U2). Safe. -/
  | illFormedConfig
  /-- Raised by `step` for operands outside R84 and R92. Safe. -/
  | illFormedOperands
  /-- Raised by a client call while the sequencer is busy or faulted (R42, U11). Safe. -/
  | callNotAccepted
  /-- Raised by a stage step whose stage the sequencer is not in, or while `flt = 1` (R38). Safe. -/
  | stageNotActive
  /-- Raised by the time-out draw when its guard does not hold (R118). Safe. -/
  | drawNotEnabled
  /-- Raised by a second reader of the ring: `DEQ` or `RDX` while the sequencer uses the port (R43, R272,
  U12). Safe. -/
  | secondReader
  /-- Raised by `DEQ` and `RDX` while `flt = 1`: the consumer is `SEQ`, which then has no step (R38, R243;
  log 27). Safe. -/
  | sequencerFaulted
  /-- Raised by `step` when the schedule issues an internal procedure, which no port can call (R96). Safe. -/
  | internalProcedure
deriving DecidableEq, Repr

/-- The state. The last four fields are the model's own (INVENTORY.md). -/
structure State where
  /-- `RING[]` (R20). -/
  ring : Memory
  /-- `wr`, a `K`-bit register kept in `0 .. CAP-1` (R21). -/
  wr : Nat
  /-- `rd`, a `K`-bit register kept in `0 .. CAP-1` (R22). -/
  rd : Nat
  /-- `crc_acc` (R24). -/
  crcAcc : U16
  /-- `crc_poly` (R25). -/
  crcPoly : U16
  /-- `crc_init` (R25). -/
  crcInit : U16
  /-- `crc_refin` (R25). -/
  crcRefin : Bool
  /-- `crc_refout` (R25). -/
  crcRefout : Bool
  /-- `crc_xorout` (R25). -/
  crcXorout : U16
  /-- `fg.stage` (R26). -/
  stage : Stage
  /-- `fg.cnt` (R26). -/
  cnt : U16
  /-- `exp`, the frame class a READ expects (R27). -/
  exp : FrameClass
  /-- `tmo`, the call's time-out selector (R27). -/
  tmo : TmoSel
  /-- `hdr[0]` (R28). -/
  hdr0 : Byte
  /-- `hdr[1]` (R28). -/
  hdr1 : Byte
  /-- `hdr[2]` (R28). -/
  hdr2 : Byte
  /-- `hdr[3]` (R28). -/
  hdr3 : Byte
  /-- `len_wire` (R29). -/
  lenWire : U16
  /-- `len_eff` (R29). -/
  lenEff : U16
  /-- `csum_rx` (R30). -/
  csumRx : U16
  /-- `RXBUF[]` (R31). -/
  rxbuf : Memory
  /-- `rx_len` (R31). -/
  rxLen : U16
  /-- `TXBUF[]` (R32). -/
  txbuf : Memory
  /-- `tx_len`, `0 .. TX_CAP+6` (R32). -/
  txLen : Nat
  /-- `ack_owed` (R33). -/
  ackOwed : Bool
  /-- `abort_owed` (R34). -/
  abortOwed : Bool
  /-- `b2b` (R35). -/
  b2b : Bool
  /-- `result` (R37). -/
  result : Result
  /-- `ret_val` (R37). -/
  retVal : U16
  /-- `flt`, the sticky fault bit (R38). -/
  flt : Bool
  /-- `tx`, every byte sent, oldest first (R41). -/
  tx : List Byte
  /-- The configuration (R6; carried here because `exec`'s form takes no other argument, log 1). -/
  cfg : Config
  /-- The last internal-port answer (log 9). -/
  portRet : PortRet
  /-- The `RDX` transfer in progress (log 10). -/
  rdx : Option RdxTransfer
  /-- The environment's coming choices (log 6). -/
  sched : List Event
deriving DecidableEq, Repr

/-- The state after reset of a block with configuration `c` (R50, R260). The values R50 gives stand as it
gives them; the elements it leaves unspecified have the values of log 3 and log 4 (DESIGN CHOICE, unsafe). -/
def State.resetOf (c : Config) : State where
  ring := []
  wr := 0
  rd := 0
  crcAcc := 0
  crcPoly := 0
  crcInit := 0
  crcRefin := false
  crcRefout := false
  crcXorout := 0
  stage := .idle
  cnt := 0
  exp := .cmd
  tmo := .none
  hdr0 := 0
  hdr1 := 0
  hdr2 := 0
  hdr3 := 0
  lenWire := 0
  lenEff := 0
  csumRx := 0
  rxbuf := []
  rxLen := 0
  txbuf := []
  txLen := 0
  ackOwed := false
  abortOwed := false
  b2b := false
  result := .ok
  retVal := 0
  flt := false
  tx := []
  cfg := c
  portRet := .nothing
  rdx := none
  sched := []

/-- The machine right after reset, default profile (log 2). -/
def State.reset : State := State.resetOf defaultProfile

/-- What `exec` and `step` answer. -/
abbrev Out := Host.Outcome State Fault Refusal

end Sys2Proof.Machine
end

