-- ==== Sys2Proof/Machine/CrcEngine.lean ====
section
/-! DEFINITION. The CRC engine (spec/41_crc16.md R130 to R139): one byte through the accumulator, the three
engine calls as effects on State, and the pure function `CRC16`. -/

namespace Sys2Proof.Machine

/-- One shift of R133: the bit shifted out decides whether the polynomial is XORed in. -/
def crcShift (poly acc : U16) : U16 :=
  if acc.getLsbD 15 then (acc <<< 1) ^^^ poly else acc <<< 1

/-- `n` shifts. -/
def crcShifts (poly : U16) : Nat → U16 → U16
  | 0, acc => acc
  | n + 1, acc => crcShifts poly n (crcShift poly acc)

/-- One byte through the accumulator, most significant bit first (R133). -/
def crcByte (poly : U16) (refin : Bool) (acc : U16) (b : Byte) : U16 :=
  let d : Byte := if refin then b.reverse else b
  crcShifts poly 8 (acc ^^^ (d.setWidth 16 <<< 8))

/-- The polynomial `0x1021` (R130). -/
def xmodemPoly : U16 := 0x1021

/-- `CRC16(bs)`, the CRC-16/XMODEM value of a byte sequence (R138). -/
def crc16 (bs : List Byte) : U16 := bs.foldl (crcByte xmodemPoly false) 0

/-- `CRC_CFG p, i, ri, ro, x` (R131). -/
def crcConfigure (poly init : U16) (refin refout : Bool) (xorout : U16) (s : State) : State :=
  { s with crcPoly := poly, crcInit := init, crcRefin := refin, crcRefout := refout, crcXorout := xorout,
           crcAcc := init }

/-- `CRC_ACC bs` (R132). -/
def crcAccumulate (bs : List Byte) (s : State) : State :=
  { s with crcAcc := bs.foldl (crcByte s.crcPoly s.crcRefin) s.crcAcc }

/-- What `CRC_FIN` returns (R134). -/
def crcValue (s : State) : U16 :=
  (if s.crcRefout then s.crcAcc.reverse else s.crcAcc) ^^^ s.crcXorout

/-- The whole sequence of R138 up to `CRC_FIN`, as the FRAMER runs it inside one step (R141). -/
def crcRun (bs : List Byte) (s : State) : State :=
  crcAccumulate bs (crcConfigure xmodemPoly 0 false false 0 s)

end Sys2Proof.Machine
end

