-- ==== Sys2Proof/Machine/Crc.lean ====
section
/-! DEFINITION. The CRC16 family (spec/41_crc16.md): `CRC_CFG`, `CRC_ACC`, `CRC_FIN`, always enabled. -/

namespace Sys2Proof.Machine

/-- `CRC_CFG p, i, ri, ro, x` (R131). -/
def execCrcCfg (poly init : U16) (refin refout : Bool) (xorout : U16) (s : State) : Out :=
  .next (crcConfigure poly init refin refout xorout s)

/-- `CRC_ACC bs` (R132). -/
def execCrcAcc (bs : List Byte) (s : State) : Out := .next (crcAccumulate bs s)

/-- `CRC_FIN` (R134). -/
def execCrcFin (s : State) : Out := .next { s with portRet := .word (crcValue s) }

end Sys2Proof.Machine
end

