-- ==== Sys2Proof/Machine/Operands.lean ====
section
/-! DEFINITION. Operand assembly: the little-endian 16-bit wire fields, the clamp, the map from selectors to
packet-type codes, and the three wire layouts (spec/20_memory.md R63, R64; spec/30_encoding.md R80 to R88,
R94). Nothing here reads State. -/

namespace Sys2Proof

/-- `v[7:0]`. -/
def loByte (v : U16) : Byte := v.extractLsb' 0 8

/-- `v[15:8]`. -/
def hiByte (v : U16) : Byte := v.extractLsb' 8 8

/-- The `u16` `{hi, lo}` (R11, R94). -/
def joinBytes (hi lo : Byte) : U16 := hi ++ lo

/-- `v[7:0] <- b`. -/
def setLoByte (v : U16) (b : Byte) : U16 := joinBytes (hiByte v) b

/-- `v[15:8] <- b`. -/
def setHiByte (v : U16) (b : Byte) : U16 := joinBytes b (loByte v)

/-- `LE16(v) = [v[7:0], v[15:8]]` (R12, R64). -/
def le16 (v : U16) : List Byte := [loByte v, hiByte v]

/-- `code(CMD) = T_CMD`, `code(DATA) = T_DATA` (R87). -/
def classCode (c : Config) : FrameClass → Byte
  | .cmd => c.tCmd
  | .data => c.tData

/-- The packet-type code of a sync type (R87). -/
def syncCode (c : Config) : SyncType → Byte
  | .ack => c.tAck
  | .nak => c.tNak
  | .ackAbort => c.tAckAbort
  | .ping => c.tPing

/-- The clamp `len_eff = min(len_wire, RX_CAP)` (R63, R94). -/
def clampLen (c : Config) (len : U16) : U16 := BitVec.ofNat 16 (min len.toNat c.rxCap)

/-- The length that goes to `hdr[2..3]` (R156): the clamped one, or the one received. -/
def checksumLen (c : Config) (len : U16) : U16 :=
  match c.crcLenSrc with
  | .clamped => clampLen c len
  | .wire => len

/-- The sync layout, 2 bytes (R82). -/
def syncFrame (c : Config) (t : SyncType) : List Byte := [c.sof, syncCode c t]

/-- The header-through-length region of a data frame with `n` payload bytes (R83, R84). -/
def frameHeader (c : Config) (cls : FrameClass) (n : Nat) : List Byte :=
  [c.sof, classCode c cls] ++ le16 (BitVec.ofNat 16 n)

/-- The data layout: header, little-endian length, little-endian checksum, payload (R83 to R85). -/
def dataFrame (c : Config) (cls : FrameClass) (csum : U16) (p : List Byte) : List Byte :=
  frameHeader c cls p.length ++ le16 csum ++ p

/-- The 8 bytes of a handshake record, both `u16` fields low byte first (R86, D20). -/
def recordBytes (r : HandshakeRecord) : List Byte :=
  [r.bugfix, r.minor, r.major, r.name] ++ le16 r.rsvd ++ le16 r.mark

/-- The response layout, 10 bytes (R86). -/
def responseFrame (c : Config) (r : HandshakeRecord) : List Byte :=
  [c.sof, c.tPingResp] ++ recordBytes r

/-- The block's own record, from the configuration (R86, R185). -/
def ownRecord (c : Config) : HandshakeRecord where
  bugfix := c.verBugfix
  minor := c.verMinor
  major := c.verMajor
  name := c.name
  rsvd := c.rsvd
  mark := c.pingMark

end Sys2Proof
end

