-- ==== Sys2Proof/Machine/Flags.lean ====
section
/-! DEFINITION. Every condition the rules compute from State: ring occupancy (spec/40_ring_buffer.md R112), the
bounded stages and the time-out guard (R117, R118), the handshake guard (spec/44_session.md R211), the numbers
of the result codes (spec/60_exceptions.md R230). -/

namespace Sys2Proof.Machine

/-- Cursor increment `(c + 1) & MASK` (spec/20_memory.md R62). -/
def cursorNext (c : Config) (x : Nat) : Nat := (x + 1) &&& c.mask

/-- Cursor difference `(w - r) & MASK`, on `K` bits with borrow discarded (R62): `CAP` is added before the
subtraction, which the mask takes away again. -/
def cursorDiff (c : Config) (w r : Nat) : Nat := (w + c.cap - r) &&& c.mask

/-- `EMPTY = (rd == wr)` (R112). -/
def ringEmpty (s : State) : Bool := decide (s.rd = s.wr)

/-- `AVAIL = (wr - rd) & MASK` (R112). -/
def ringAvail (s : State) : Nat := cursorDiff s.cfg s.wr s.rd

/-- The bounded stages (R117): every reading stage but the two seeks. -/
def Stage.bounded : Stage → Bool
  | .rType => true
  | .rLen => true
  | .rCsum => true
  | .rPay => true
  | .wType => true
  | .idle => false
  | .rSeek => false
  | .rVerify => false
  | .wSeek => false

/-- A wait with this selector may expire now: `BOUNDED`, `TIMEOUT_IMPL`, ring empty (R116, R118). -/
def waitMayExpire (s : State) (t : TmoSel) : Bool :=
  decide (t = .bounded) && s.cfg.timeoutImpl && ringEmpty s

/-- The guard of the time-out draw in a call (R118); the sequencer has no step while `flt = 1` (R38). -/
def drawEnabled (s : State) : Bool :=
  s.stage.bounded && !s.flt && waitMayExpire s s.tmo

/-- `Idle()`: nothing owed and not back to back (R211, spec/90_conflicts.md C3). -/
def linkIdle (s : State) : Bool := !s.ackOwed && !s.abortOwed && !s.b2b

/-- The client port accepts a call: `fg.stage = IDLE` and `flt = 0` (spec/10_state.md R42), and the harness is
not inside an `RDX` (R43, log 10). -/
def clientMayCall (s : State) : Bool := decide (s.stage = .idle) && !s.flt && s.rdx.isNone

/-- The number of a result code (R230, D16). -/
def Result.code : Result → Nat
  | .ok => 0
  | .invalidArgument => 1
  | .timeout => 2
  | .protocolMismatch => 3
  | .abort => 4
  | .checksumMismatch => 5
  | .callerContractViolation => 6

end Sys2Proof.Machine
end

