-- ==== Sys2Proof/Machine/Ops.lean ====
section
/-! DEFINITION. The named operations the meanings are written over: array reads, `ENQ` and `DEQ` as effects on
the ring, `Emit`, and how a call ends: `raise` and the sticky fault (spec/00_scope.md R12,
spec/60_exceptions.md R241, R243). There is no return operation (R242). -/

namespace Sys2Proof.Machine

/-- `MemRead(S, a, 1)` (R12, R61) on an array of `size` bytes. -/
def readByte (sp : Space) (m : Memory) (size a : Nat) : Except Fault Byte :=
  if a < size then
    match m.get a with
    | some b => .ok b
    | none => .error (.unwritten sp)
  else .error (.outOfRange sp)

/-- The `n` bytes at `a`, `a+1`, ..., in order. -/
def readBytes (sp : Space) (m : Memory) (size a : Nat) : Nat → Except Fault (List Byte)
  | 0 => .ok []
  | n + 1 =>
    match readByte sp m size a with
    | .error f => .error f
    | .ok b =>
      match readBytes sp m size (a + 1) n with
      | .error f => .error f
      | .ok bs => .ok (b :: bs)

/-- `Emit(bs)`: append to `tx` (R12, spec/10_state.md R41). -/
def emit (bs : List Byte) (s : State) : State := { s with tx := s.tx ++ bs }

/-- `raise r`: the end of a call, `result <- r` and `fg.stage <- IDLE`, nothing else (R12, R241). -/
def raise (r : Result) (s : State) : State := { s with result := r, stage := .idle }

/-- `fault()`: `flt <- 1`, nothing else (R12, R243). -/
def raiseFault (s : State) : State := { s with flt := true }

/-- The effect of one `ENQ b`: `RING[wr] <- b`, then `wr <- (wr + 1) & MASK` (R111). -/
def enqueue (s : State) (b : Byte) : State :=
  { s with ring := s.ring.put s.wr b, wr := cursorNext s.cfg s.wr }

/-- The bytes of `bs` through the producer port, one `ENQ` each, in order (R95 `HOST send`). The cursor is a
`K`-bit register, so the fault is out of reach (R21). -/
def deliver (bs : List Byte) (s : State) : Out :=
  if s.wr < s.cfg.cap then .next (bs.foldl enqueue s) else .fault (.outOfRange .ring)

/-- `rd <- (rd + 1) & MASK` (R113). -/
def advanceRd (s : State) : State := { s with rd := cursorNext s.cfg s.rd }

/-- One `DEQ` (R113): on an empty ring the consumer holds, which is `hold`; else `k` goes on with the byte and
the state in which `rd` has moved. -/
def dequeue (s : State) (hold : Out) (k : Byte → State → Out) : Out :=
  if s.rd = s.wr then hold
  else
    match readByte .ring s.ring s.cfg.cap s.rd with
    | .error f => .fault f
    | .ok b => k b (advanceRd s)

/-- A sequencer step guarded by its stage and by `flt = 0` (R38, R152 to R161, R215, R216). -/
def atStage (st : Stage) (s : State) (k : Out) : Out :=
  if s.stage = st ∧ s.flt = false then k else .refused .stageNotActive

/-- A stage step that dequeues one byte; on an empty ring the sequencer holds: nothing changes (R114, log 7). -/
def stageByte (st : Stage) (s : State) (k : Byte → State → Out) : Out :=
  atStage st s (dequeue s (.next s) k)

/-- The ring's consumer port outside a call. The consumer is `SEQ` (R113): with `flt = 1` it has no step (R38,
R243; that this binds a harness on the port too is log 27), and inside a call it is itself the reader (R43,
R272, log 20). -/
def readerPort (s : State) (k : Out) : Out :=
  if s.flt = true then .refused .sequencerFaulted
  else if s.stage = .idle then k
  else .refused .secondReader

/-- A client call, accepted only by a free sequencer (R42, log 8). -/
def clientCall (s : State) (k : Out) : Out :=
  if clientMayCall s = true then k else .refused .callNotAccepted

end Sys2Proof.Machine
end

