-- ==== Sys2Proof/Machine/Serial.lean ====
section
/-! DEFINITION. The procedures the steps share: the serialisers `SyncEmit`, `BuildData`, `SendTxbuf`,
`RespEmit` (spec/43_frame_encoder.md R182 to R185), and `Discharge` and `Respond` (spec/44_session.md R201,
R210). -/

namespace Sys2Proof.Machine

/-- `SyncEmit(T)` (R182). -/
def syncEmit (t : SyncType) (s : State) : State := emit (syncFrame s.cfg t) s

/-- `RespEmit()` (R185). -/
def respEmit (s : State) : State := emit (responseFrame s.cfg (ownRecord s.cfg)) s

/-- `Discharge()` (R201). -/
def discharge (s : State) : State :=
  if s.ackOwed then { syncEmit .ack s with ackOwed := false, b2b := true }
  else if s.abortOwed then { syncEmit .ackAbort s with abortOwed := false, b2b := true }
  else s

/-- `Respond()` (R210). -/
def respond (s : State) : State := if linkIdle s then respEmit s else s

/-- The writes of `BuildData(code(cls), P)` in the order of R183; the checksum runs through the CRC engine
(R141). -/
def storeFrame (cls : FrameClass) (p : List Byte) (s : State) : State :=
  let h := frameHeader s.cfg cls p.length
  let e := crcRun (h ++ p) s
  { e with txbuf := (((s.txbuf.putAll 0 h).putAll 6 p).putAll 4 (le16 (crcValue e))), txLen := 6 + p.length }

/-- `BuildData(code(cls), P)` (R183): `TXBUF` has `TX_CAP + 6` bytes, so a longer payload has no address
(R60). -/
def buildData (cls : FrameClass) (p : List Byte) (s : State) : Except Fault State :=
  if p.length ≤ s.cfg.txCap then .ok (storeFrame cls p s) else .error (.outOfRange .txbuf)

/-- `SendTxbuf()` (R184). -/
def sendTxbuf (s : State) : Except Fault State :=
  match readBytes .txbuf s.txbuf (s.cfg.txCap + 6) 0 s.txLen with
  | .error f => .error f
  | .ok bs => .ok { emit bs s with b2b := false }

/-- A procedure's answer as an outcome: what follows it runs in its state, a fault stops. -/
def andThen (r : Except Fault State) (k : State → Out) : Out :=
  match r with
  | .error f => .fault f
  | .ok s => k s

end Sys2Proof.Machine
end

