-- ==== Sys2Proof/Machine/Decoder.lean ====
section
/-! DEFINITION. The FRAMER decoder (spec/42_frame_decoder.md): `READ` and its stage steps. -/

namespace Sys2Proof.Machine

/-- `READ exp, tmo, dst`, the acceptance step (R150): the pointer check comes before the discharge. -/
def execRead (exp : FrameClass) (tmo : TmoSel) (dst : Dst) (s : State) : Out :=
  clientCall s
    (match dst with
     | .null => .next (raise .invalidArgument s)
     | .valid => .next { discharge s with exp := exp, tmo := tmo, stage := .rSeek })

/-- `R_SEEK` (R152): a byte that is not `SOF` is dropped. -/
def execRSeek (s : State) : Out :=
  stageByte .rSeek s (fun b t =>
    if b = s.cfg.sof then .next { t with hdr0 := b, stage := .rType } else .next t)

/-- `R_TYPE` (R153 to R155): probe, accept or mismatch. -/
def execRType (s : State) : Out :=
  stageByte .rType s (fun b t =>
    if b = s.cfg.tPing then .next { respond t with stage := .rSeek }
    else if b = classCode s.cfg s.exp then .next { t with hdr1 := b, b2b := false, stage := .rLen, cnt := 0 }
    else .next (raise .protocolMismatch { t with b2b := false }))

/-- The step that completes the length field: clamp and keep the header bytes the checksum covers (R156). -/
def lengthComplete (s : State) : State :=
  { s with lenEff := clampLen s.cfg s.lenWire,
           hdr2 := loByte (checksumLen s.cfg s.lenWire), hdr3 := hiByte (checksumLen s.cfg s.lenWire),
           stage := .rCsum, cnt := 0 }

/-- `R_LEN` (R156). -/
def execRLen (s : State) : Out :=
  stageByte .rLen s (fun b t =>
    if s.cnt = 0 then .next { t with lenWire := setLoByte s.lenWire b, cnt := 1 }
    else .next (lengthComplete { t with lenWire := setHiByte s.lenWire b }))

/-- The step that completes the checksum field: zero all of `RXBUF`, go on to the payload or to verify (R157,
R158). -/
def checksumComplete (s : State) : State :=
  let z := { s with rxbuf := s.rxbuf.putAll 0 (List.replicate s.cfg.rxCap 0) }
  if s.lenEff = 0 then { z with stage := .rVerify } else { z with stage := .rPay, cnt := 0 }

/-- `R_CSUM` (R157). -/
def execRCsum (s : State) : Out :=
  stageByte .rCsum s (fun b t =>
    if s.cnt = 0 then .next { t with csumRx := setLoByte s.csumRx b, cnt := 1 }
    else .next (checksumComplete { t with csumRx := setHiByte s.csumRx b }))

/-- `R_PAY` (R159). -/
def execRPay (s : State) : Out :=
  stageByte .rPay s (fun b t =>
    if s.cnt.toNat < s.cfg.rxCap then
      let u := { t with rxbuf := s.rxbuf.put s.cnt.toNat b }
      if s.cnt.toNat + 1 = s.lenEff.toNat then .next { u with stage := .rVerify }
      else .next { u with cnt := s.cnt + 1 }
    else .fault (.outOfRange .rxbuf))

/-- The two arms of verify on the payload `p` (R161 to R163). -/
def verifyPayload (p : List Byte) (s : State) : State :=
  let e := crcRun ([s.hdr0, s.hdr1, s.hdr2, s.hdr3] ++ p) s
  if crcValue e = s.csumRx then raise .ok { e with ackOwed := true, rxLen := s.lenEff }
  else { syncEmit .nak e with b2b := true, stage := .rSeek }

/-- `R_VERIFY` (R161): it dequeues nothing and no time-out applies. -/
def execRVerify (s : State) : Out :=
  atStage .rVerify s
    (match readBytes .rxbuf s.rxbuf s.cfg.rxCap 0 s.lenEff.toNat with
     | .error f => .fault f
     | .ok p => .next (verifyPayload p s))

end Sys2Proof.Machine
end

