-- ==== Sys2Proof/Machine/Encoder.lean ====
section
/-! DEFINITION. The FRAMER encoder's client call `WRITE` (spec/43_frame_encoder.md R180, R181). -/

namespace Sys2Proof.Machine

/-- `WRITE cls, P, tmo`, the acceptance step: size check, discharge, build, transmit (R180). -/
def execWrite (cls : FrameClass) (p : List Byte) (tmo : TmoSel) (s : State) : Out :=
  clientCall s
    (if s.cfg.txCap < p.length then .next (raise .invalidArgument s)
     else
       andThen (buildData cls p (discharge s)) (fun t =>
         andThen (sendTxbuf t) (fun u => .next { u with tmo := tmo, stage := .wSeek })))

end Sys2Proof.Machine
end

