-- ==== Sys2Proof/Machine/Internal.lean ====
section
/-! DEFINITION. The rows of format `internal` (spec/30_encoding.md R96) run alone: each has the effect of the
procedure. No port can call them, so `step` never issues one (log 11). -/

namespace Sys2Proof.Machine

/-- `Discharge` (R201). -/
def execDischarge (s : State) : Out := .next (discharge s)

/-- `Respond` (R210). -/
def execRespond (s : State) : Out := .next (respond s)

/-- `SyncEmit(T)` (R182). -/
def execSyncEmit (t : SyncType) (s : State) : Out := .next (syncEmit t s)

/-- `BuildData(code(cls), P)` (R183). -/
def execBuildData (cls : FrameClass) (p : List Byte) (s : State) : Out := andThen (buildData cls p s) .next

/-- `SendTxbuf` (R184). -/
def execSendTxbuf (s : State) : Out := andThen (sendTxbuf s) .next

/-- `RespEmit` (R185). -/
def execRespEmit (s : State) : Out := .next (respEmit s)

end Sys2Proof.Machine
end

