-- ==== Sys2Proof/Machine/Ring.lean ====
section
/-! DEFINITION. The RING family (spec/40_ring_buffer.md): `ENQ`, `EMPTY`, `AVAIL`, `DEQ`, `RDX` and the
time-out draw. -/

namespace Sys2Proof.Machine

/-- `ENQ b` (R111). -/
def execEnq (b : Byte) (s : State) : Out := deliver [b] s

/-- `EMPTY` (R112). -/
def execEmpty (s : State) : Out := .next { s with portRet := .flag (ringEmpty s) }

/-- `AVAIL` (R112). -/
def execAvail (s : State) : Out := .next { s with portRet := .count (ringAvail s) }

/-- `DEQ` on the internal consumer port (R113), not with `flt = 1` (log 27) and not beside another reader (R43,
R272, log 20). On an empty ring the consumer holds (R114, log 7). -/
def execDeq (s : State) : Out :=
  readerPort s
    (if s.rdx = none then dequeue s (.next s) (fun b t => .next { t with portRet := .byte b })
     else .refused .secondReader)

/-- `RDX` with the bytes of `x` complete: `OK`, the transfer ends. -/
def rdxDone (x : RdxTransfer) (s : State) : State := { s with portRet := .bytes x.got, rdx := none }

/-- One turn of the loop of R116 on the transfer `x`: ended, one `DEQ`, or the wait on an empty ring. -/
def rdxTurn (x : RdxTransfer) (s : State) : Out :=
  if x.got.length = x.want then .next (rdxDone x s)
  else
    dequeue s (.next { s with rdx := some x }) (fun b t =>
      let y : RdxTransfer := { x with got := x.got ++ [b] }
      if y.got.length = y.want then .next (rdxDone y t) else .next { t with rdx := some y })

/-- `RDX n, tmo` (R116): each scheduling is one turn of its loop, so other agents may step in between (log 10).
A second transfer beside one in progress, or beside a call, is a second reader (R272); with `flt = 1` there is no
turn (log 27). -/
def execRdx (n : Nat) (tmo : TmoSel) (s : State) : Out :=
  readerPort s
    (match s.rdx with
     | none => rdxTurn { want := n, tmo := tmo, got := [] } s
     | some x => if x.want = n ∧ x.tmo = tmo then rdxTurn x s else .refused .secondReader)

/-- The time-out draw (R118); of an `RDX` in progress it is the `Timeout` return of R116, not with `flt = 1`
(log 27). -/
def execTimeout (s : State) : Out :=
  if drawEnabled s then .next (raise .timeout s)
  else
    match s.rdx with
    | none => .refused .drawNotEnabled
    | some x =>
      if s.flt = false ∧ waitMayExpire s x.tmo = true then .next { s with portRet := .timedOut x.got, rdx := none }
      else .refused .drawNotEnabled

end Sys2Proof.Machine
end

