-- ==== Sys2Proof/Machine/Session.lean ====
section
/-! DEFINITION. The SESSION family (spec/44_session.md): `FINALIZE`, `ABORT`, `MAXPAY`, and the wait-for-sync
stage steps `W_SEEK`, `W_TYPE`. -/

namespace Sys2Proof.Machine

/-- `FINALIZE` (R205). -/
def execFinalize (s : State) : Out := clientCall s (.next { discharge s with result := .ok })

/-- `ABORT`: with an ACK owed it becomes an ACK-ABORT owed (R206); else the sticky fault (R207). -/
def execAbort (s : State) : Out :=
  clientCall s
    (if s.ackOwed then .next { s with ackOwed := false, abortOwed := true, result := .ok }
     else .next (raiseFault s))

/-- `MAXPAY` (R209). -/
def execMaxpay (s : State) : Out :=
  clientCall s (.next { s with retVal := BitVec.ofNat 16 s.cfg.txCap, result := .ok })

/-- `W_SEEK` (R215): `hdr[]` is not written. -/
def execWSeek (s : State) : Out :=
  stageByte .wSeek s (fun b t => if b = s.cfg.sof then .next { t with stage := .wType } else .next t)

/-- `W_TYPE` (R216, R217). -/
def execWType (s : State) : Out :=
  stageByte .wType s (fun b t =>
    let u := { t with b2b := false }
    if b = s.cfg.tAck then .next (raise .ok u)
    else if b = s.cfg.tAckAbort then .next (raise .abort u)
    else if b = s.cfg.tNak then andThen (sendTxbuf u) (fun v => .next { v with stage := .wSeek })
    else .next (raise .protocolMismatch u))

end Sys2Proof.Machine
end

