-- ==== Sys2Proof/Machine/Wire.lean ====
section
/-! DEFINITION. The packet-type rows (spec/30_encoding.md R87) as operations: the host sends that frame, one
`ENQ` per byte in wire order (R95 `HOST send`, log 12). What the block then does with the bytes is the stage
steps' (R88, R89). -/

namespace Sys2Proof.Machine

/-- The host sends `[SOF][T_ACK]`. -/
def execAck (s : State) : Out := deliver (syncFrame s.cfg .ack) s

/-- The host sends `[SOF][T_NAK]`. -/
def execNak (s : State) : Out := deliver (syncFrame s.cfg .nak) s

/-- The host sends `[SOF][T_ACKABORT]`. -/
def execAckAbort (s : State) : Out := deliver (syncFrame s.cfg .ackAbort) s

/-- The host sends a command frame (R83). -/
def execCommand (csum : U16) (p : List Byte) (s : State) : Out := deliver (dataFrame s.cfg .cmd csum p) s

/-- The host sends a data frame (R83). -/
def execData (csum : U16) (p : List Byte) (s : State) : Out := deliver (dataFrame s.cfg .data csum p) s

/-- The host sends a liveness probe `[SOF][T_PING]`. -/
def execPing (s : State) : Out := deliver (syncFrame s.cfg .ping) s

/-- The host sends a response frame (R86); the block never accepts one (R87). -/
def execPingResponse (r : HandshakeRecord) (s : State) : Out := deliver (responseFrame s.cfg r) s

end Sys2Proof.Machine
end

