-- ==== Sys2Proof/Machine/Dispatch.lean ====
section
/-! DEFINITION. One arm per constructor of `Instr`, in the order of spec/opcode_table.json. -/

namespace Sys2Proof.Machine

def exec (i : Instr) (s : State) : Host.Outcome State Fault Refusal :=
  match i with
  | .enq b => Sys2Proof.Machine.execEnq b s
  | .empty => Sys2Proof.Machine.execEmpty s
  | .avail => Sys2Proof.Machine.execAvail s
  | .deq => Sys2Proof.Machine.execDeq s
  | .rdx n tmo => Sys2Proof.Machine.execRdx n tmo s
  | .crcCfg poly init refin refout xorout => Sys2Proof.Machine.execCrcCfg poly init refin refout xorout s
  | .crcAcc bs => Sys2Proof.Machine.execCrcAcc bs s
  | .crcFin => Sys2Proof.Machine.execCrcFin s
  | .read exp tmo dst => Sys2Proof.Machine.execRead exp tmo dst s
  | .write cls p tmo => Sys2Proof.Machine.execWrite cls p tmo s
  | .finalize => Sys2Proof.Machine.execFinalize s
  | .abort => Sys2Proof.Machine.execAbort s
  | .maxpay => Sys2Proof.Machine.execMaxpay s
  | .rSeek => Sys2Proof.Machine.execRSeek s
  | .rType => Sys2Proof.Machine.execRType s
  | .rLen => Sys2Proof.Machine.execRLen s
  | .rCsum => Sys2Proof.Machine.execRCsum s
  | .rPay => Sys2Proof.Machine.execRPay s
  | .rVerify => Sys2Proof.Machine.execRVerify s
  | .wSeek => Sys2Proof.Machine.execWSeek s
  | .wType => Sys2Proof.Machine.execWType s
  | .timeout => Sys2Proof.Machine.execTimeout s
  | .discharge => Sys2Proof.Machine.execDischarge s
  | .respond => Sys2Proof.Machine.execRespond s
  | .syncEmit t => Sys2Proof.Machine.execSyncEmit t s
  | .buildData cls p => Sys2Proof.Machine.execBuildData cls p s
  | .sendTxbuf => Sys2Proof.Machine.execSendTxbuf s
  | .respEmit => Sys2Proof.Machine.execRespEmit s
  | .ack => Sys2Proof.Machine.execAck s
  | .nak => Sys2Proof.Machine.execNak s
  | .ackAbort => Sys2Proof.Machine.execAckAbort s
  | .command csum p => Sys2Proof.Machine.execCommand csum p s
  | .data csum p => Sys2Proof.Machine.execData csum p s
  | .ping => Sys2Proof.Machine.execPing s
  | .pingResponse r => Sys2Proof.Machine.execPingResponse r s

end Sys2Proof.Machine
end

