-- ==== Sys2Proof/Decode.lean ====
section
/-! DEFINITION. The frame decoder over a byte string and the encoder (spec/30_encoding.md R80 to R90, R96).
Only the seven packet-type rows of spec/opcode_table.json have an encoding; port, stage and internal rows have
none (spec/91_not_in_source.md N14, log 14), so the decoder never answers one and the encoder answers `none`.
The decoder is total: it answers a frame and the bytes after it, or rejects by name. -/

namespace Sys2Proof

/-- Why a byte string does not begin with a frame. -/
inductive DecodeError where
  /-- The first byte is not `SOF` (R81). -/
  | noStartMarker
  /-- The second byte is none of the seven type codes (R87). -/
  | unassignedType
  /-- The string ends inside the frame. -/
  | truncated
deriving DecidableEq, Repr

/-- Bytes 2 and on of a data frame: length, checksum, payload (R83). Any checksum is legal here (R89). -/
def decodeDataTail : List Byte → Except DecodeError (U16 × List Byte × List Byte)
  | l0 :: l1 :: k0 :: k1 :: more =>
    let n := (joinBytes l1 l0).toNat
    if n ≤ more.length then .ok (joinBytes k1 k0, more.take n, more.drop n) else .error .truncated
  | _ => .error .truncated

/-- Bytes 2 to 9 of a response frame: the record (R86). Any record is taken (log 15). -/
def decodeRecord : List Byte → Except DecodeError (HandshakeRecord × List Byte)
  | b0 :: b1 :: b2 :: b3 :: r0 :: r1 :: m0 :: m1 :: more =>
    .ok ({ bugfix := b0, minor := b1, major := b2, name := b3,
           rsvd := joinBytes r1 r0, mark := joinBytes m1 m0 }, more)
  | _ => .error .truncated

/-- What follows a header of type `t` (R87, R88). -/
def decodeBody (c : Config) (t : Byte) (rest : List Byte) : Except DecodeError (Instr × List Byte) :=
  if t = c.tAck then .ok (.ack, rest)
  else if t = c.tNak then .ok (.nak, rest)
  else if t = c.tAckAbort then .ok (.ackAbort, rest)
  else if t = c.tCmd then
    match decodeDataTail rest with
    | .ok (k, p, more) => .ok (.command k p, more)
    | .error e => .error e
  else if t = c.tData then
    match decodeDataTail rest with
    | .ok (k, p, more) => .ok (.data k p, more)
    | .error e => .error e
  else if t = c.tPing then .ok (.ping, rest)
  else if t = c.tPingResp then
    match decodeRecord rest with
    | .ok (r, more) => .ok (.pingResponse r, more)
    | .error e => .error e
  else .error .unassignedType

/-- The frame a byte string begins with, and the bytes after it (R80, R81, R88). -/
def decode (c : Config) : List Byte → Except DecodeError (Instr × List Byte)
  | [] => .error .truncated
  | [b] => if b = c.sof then .error .truncated else .error .noStartMarker
  | b :: t :: rest => if b = c.sof then decodeBody c t rest else .error .noStartMarker

/-- The wire bytes of a frame row (R82, R83, R86); `none` for a row without an encoding (N14). -/
def encode (c : Config) : Instr → Option (List Byte)
  | .ack => some (syncFrame c .ack)
  | .nak => some (syncFrame c .nak)
  | .ackAbort => some (syncFrame c .ackAbort)
  | .ping => some (syncFrame c .ping)
  | .command k p => some (dataFrame c .cmd k p)
  | .data k p => some (dataFrame c .data k p)
  | .pingResponse r => some (responseFrame c r)
  | .enq _ => none
  | .empty => none
  | .avail => none
  | .deq => none
  | .rdx _ _ => none
  | .crcCfg _ _ _ _ _ => none
  | .crcAcc _ => none
  | .crcFin => none
  | .read _ _ _ => none
  | .write _ _ _ => none
  | .finalize => none
  | .abort => none
  | .maxpay => none
  | .rSeek => none
  | .rType => none
  | .rLen => none
  | .rCsum => none
  | .rPay => none
  | .rVerify => none
  | .wSeek => none
  | .wType => none
  | .timeout => none
  | .discharge => none
  | .respond => none
  | .syncEmit _ => none
  | .buildData _ _ => none
  | .sendTxbuf => none
  | .respEmit => none

/-- `n` 16-bit words of `w`, the least significant word first, each word's first wire byte in its high half
(R96: "first wire byte in the high half"). -/
def wordBytes : (n w : Nat) → List Byte
  | 0, _ => []
  | n + 1, w => BitVec.ofNat 8 (w / 256) :: BitVec.ofNat 8 w :: wordBytes n (w / 65536)

/-- The wire bytes of an instruction whose low `nbits` bits are those of `w` and whose other bits are 0, laid
out to 10 bytes: the longest frame whose bytes after the header are all zero is the response (R80, log 13). -/
def tableBytes (nbits w : Nat) : List Byte := wordBytes 5 (w % 2 ^ nbits)

/-- The instruction the decoder reads from a word of the table, default profile (R96, log 13). -/
def decodeTableWord (nbits w : Nat) : Option Instr :=
  match decode defaultProfile (tableBytes nbits w) with
  | .ok (i, _) => some i
  | .error _ => none

/-- The next frame of a burst on the line and the bytes after it; a byte that begins no frame is delivered
alone, as the `ENQ` it is (R77, R89, log 15). -/
def nextOnLine (c : Config) (b : Byte) (bs : List Byte) : Instr × List Byte :=
  match decode c (b :: bs) with
  | .ok r => r
  | .error _ => (.enq b, bs)

end Sys2Proof
end

