-- ==== Sys2Proof/WellFormed.lean ====
section
/-! DEFINITION. Well-formedness of a configuration (spec/00_scope.md R7, spec/40_ring_buffer.md R110) and of
an operation's operands (spec/30_encoding.md R84, R92). -/

namespace Sys2Proof

/-- R7 clause 1: `CAP = 2^K` for an integer `K >= 1`. -/
def Config.capOk (c : Config) : Bool :=
  decide (2 ≤ c.cap) && decide (c.cap = 2 ^ Nat.log2 c.cap)

/-- The seven packet-type codes. -/
def Config.types (c : Config) : List Byte :=
  [c.tAck, c.tNak, c.tAckAbort, c.tCmd, c.tData, c.tPing, c.tPingResp]

/-- R7 clause 3: the seven packet-type codes are pairwise different. -/
def Config.typesOk (c : Config) : Bool := decide c.types.Nodup

/-- R7, all four clauses. -/
def Config.wf (c : Config) : Bool :=
  c.capOk && decide (c.rxCap ≤ 65535) && decide (c.txCap ≤ 65535) && c.typesOk && decide (c.rsvd = 0)

/-- The operand conditions: a `WRITE`'s payload and a data frame's payload have at most 65535 bytes (R92,
R84); `BuildData` takes at most `TX_CAP` bytes (R183). Every other operand is well formed by its type. -/
def Instr.wf (c : Config) : Instr → Bool
  | .write _ p _ => decide (p.length ≤ 65535)
  | .buildData _ p => decide (p.length ≤ c.txCap)
  | .command _ p => decide (p.length ≤ 65535)
  | .data _ p => decide (p.length ≤ 65535)
  | .enq _ => true
  | .empty => true
  | .avail => true
  | .deq => true
  | .rdx _ _ => true
  | .crcCfg _ _ _ _ _ => true
  | .crcAcc _ => true
  | .crcFin => true
  | .read _ _ _ => true
  | .finalize => true
  | .abort => true
  | .maxpay => true
  | .rSeek => true
  | .rType => true
  | .rLen => true
  | .rCsum => true
  | .rPay => true
  | .rVerify => true
  | .wSeek => true
  | .wType => true
  | .timeout => true
  | .discharge => true
  | .respond => true
  | .syncEmit _ => true
  | .sendTxbuf => true
  | .respEmit => true
  | .ack => true
  | .nak => true
  | .ackAbort => true
  | .ping => true
  | .pingResponse _ => true

end Sys2Proof
end

