-- ==== Sys2Proof/Machine/Fetch.lean ====
section
/-! DEFINITION. What moves next (spec/00_scope.md R9, R13): the choice at the head of the schedule, and the
stage step of the sequencer. The block fetches no instructions (spec/20_memory.md R76); this fetch is the
model's rendering of the interleaving (log 6). -/

namespace Sys2Proof.Machine

/-- The stage step the sequencer takes, if its stage has one (R26). -/
def Stage.instr : Stage → Option Instr
  | .idle => none
  | .rSeek => some .rSeek
  | .rType => some .rType
  | .rLen => some .rLen
  | .rCsum => some .rCsum
  | .rPay => some .rPay
  | .rVerify => some .rVerify
  | .wSeek => some .wSeek
  | .wType => some .wType

/-- What `SEQ` does when scheduled: nothing with `flt = 1` (R38, R243); else its stage step; else the turn of an
`RDX` in progress (R116, log 10); else nothing (R14 hold). -/
def sequencerInstr (s : State) : Option Instr :=
  if s.flt then none
  else
    match s.stage.instr with
    | some i => some i
    | none =>
      match s.rdx with
      | some x => some (.rdx x.want x.tmo)
      | none => none

/-- What the schedule gives the step. -/
inductive Fetched where
  /-- Run this operation in this state. -/
  | run (i : Instr) (s : State)
  /-- No operation: go on with this state. -/
  | pass (s : State)
  /-- The schedule asks for what no agent can do. -/
  | refuse (r : Refusal)
deriving DecidableEq, Repr

/-- `SEQ` is scheduled: its operation, or nothing to do. -/
def fetchSequencer (s : State) : Fetched :=
  match sequencerInstr s with
  | some i => .run i s
  | none => .pass s

/-- An agent issues `i`: internal procedures are not callable (R96), operands must be well formed. -/
def fetchIssue (i : Instr) (s : State) : Fetched :=
  if i.isInternal then .refuse .internalProcedure
  else if i.wf s.cfg then .run i s
  else .refuse .illFormedOperands

/-- The rest of a burst goes back to the head of the schedule. -/
def restOfLine (bs : List Byte) (rest : List Event) : List Event :=
  match bs with
  | [] => rest
  | _ :: _ => .line bs :: rest

/-- The next choice of the schedule. An empty schedule lets `SEQ` run alone. A burst on the line gives its next
frame, or its next byte (`nextOnLine`). A device reset leaves the rest of the environment's choices (R261). -/
def fetch (s : State) : Fetched :=
  match s.sched with
  | [] => fetchSequencer s
  | .seq :: rest => fetchSequencer { s with sched := rest }
  | .issue i :: rest => fetchIssue i { s with sched := rest }
  | .line [] :: rest => .pass { s with sched := rest }
  | .line (b :: bs) :: rest =>
    match nextOnLine s.cfg b bs with
    | (i, more) => .run i { s with sched := restOfLine more rest }
  | .reset :: rest => .pass { State.resetOf s.cfg with sched := rest }

/-- Start-up of a block with configuration `c`: an ill-formed one is refused, any other starts at its reset
state (R7, R110, R262). -/
def instantiate (c : Config) : Out :=
  if c.wf then .next (State.resetOf c) else .refused .illFormedConfig

end Sys2Proof.Machine
end

