-- ==== Sys2Proof/Machine/Step.lean ====
section
/-! DEFINITION. One step: fetch the next choice of the schedule and run it with `exec`. An ill-formed
configuration has no step (spec/00_scope.md R7). -/

namespace Sys2Proof.Machine

/-- One step of the machine (R13). -/
def step (s : State) : Host.Outcome State Fault Refusal :=
  if s.cfg.wf then
    match fetch s with
    | .run i t => exec i t
    | .pass t => .next t
    | .refuse r => .refused r
  else .refused .illFormedConfig

/-- The word's wire bytes come next on the line (log 13, log 16). -/
def State.withFetchWord (s : State) (nbits w : Nat) : State :=
  { s with sched := .line (tableBytes nbits w) :: s.sched }

end Sys2Proof.Machine
end

