-- ==== Sys2Proof/Safety.lean ====
section
/-! DEFINITION. The terms claims use: what a consumer can still read from the ring, a run of operations, a final
state (spec/70_reset_and_hazards.md R275), an overflow (R270), and the invariant of the states a run can reach. -/

namespace Sys2Proof.Machine

/-- Run operations one after another, stopping at the first stop. -/
def runOps : List Instr → State → Out
  | [], s => .next s
  | i :: is, s =>
    match exec i s with
    | .next t => runOps is t
    | .fault f => .fault f
    | .refused r => .refused r

/-- The slot of the `i`-th byte the consumer will get (spec/20_memory.md R62). -/
def ringSlot (s : State) (i : Nat) : Nat := (s.rd + i) % s.cfg.cap

/-- The bytes the consumer can see, oldest first (R112). -/
def ringContents (s : State) : List (Option Byte) :=
  (List.range (ringAvail s)).map (fun i => s.ring.get (ringSlot s i))

/-- An `ENQ` in this state overflows: the ring already shows `CAP - 1` bytes (R270). -/
def enqOverflows (s : State) : Prop := ringAvail s = s.cfg.cap - 1

/-- R275: no call in progress and no fault. -/
def isFinal (s : State) : Prop := s.stage = .idle ∧ s.flt = false

/-- The cursors of a well-formed block hold `K`-bit values (R7, R21, R22). -/
abbrev CursorsOk (s : State) : Prop := s.cfg.wf = true ∧ s.wr < s.cfg.cap ∧ s.rd < s.cfg.cap

/-- The ring of a well-formed block is not empty and `b` stands in the slot at `rd` (R113, R120). -/
abbrev NextByte (s : State) (b : Byte) : Prop :=
  s.cfg.wf = true ∧ s.rd ≠ s.wr ∧ s.rd < s.cfg.cap ∧ s.ring.get s.rd = some b

/-- The client port accepts a call and the consumer port a read: `SEQ` idle, no fault (R38, R42), no `RDX` of the
harness under way (R43). -/
abbrev ClientFree (s : State) : Prop := s.stage = .idle ∧ s.flt = false ∧ s.rdx = none

/-- The sequencer is in the stage and may step (R38). -/
abbrev InStage (s : State) (st : Stage) : Prop := s.stage = st ∧ s.flt = false

/-- R36: at most one of the owed flags is set. -/
abbrev OwedOne (s : State) : Prop := ¬ (s.ackOwed = true ∧ s.abortOwed = true)

/-- What a discharge puts on the wire (R201, R220). -/
def owedBytes (s : State) : List Byte :=
  if s.ackOwed then [s.cfg.sof, s.cfg.tAck]
  else if s.abortOwed then [s.cfg.sof, s.cfg.tAckAbort]
  else []

/-- `DFRAME(code(cls), P)` of R95, a data frame with its right checksum (R83 to R85). -/
def builtFrame (c : Config) (cls : FrameClass) (p : List Byte) : List Byte :=
  dataFrame c cls (crc16 (frameHeader c cls p.length ++ p)) p

/-- Bit `j` of a message in the order its bits enter the CRC, the most significant bit of a byte first (R65). -/
def messageBit (m : List Byte) (j : Nat) : Bool := (m.getD (j / 8) 0).getLsbD (7 - j % 8)

/-- R73: the operations that neither dequeue, nor test the ring for emptiness, nor enqueue. -/
def sparesRing : Instr → Bool
  | .crcCfg _ _ _ _ _ => true
  | .crcAcc _ => true
  | .crcFin => true
  | .read _ _ _ => true
  | .write _ _ _ => true
  | .finalize => true
  | .abort => true
  | .maxpay => true
  | .rVerify => true
  | .discharge => true
  | .respond => true
  | .syncEmit _ => true
  | .buildData _ _ => true
  | .sendTxbuf => true
  | .respEmit => true
  | .enq _ => false
  | .empty => false
  | .avail => false
  | .deq => false
  | .rdx _ _ => false
  | .rSeek => false
  | .rType => false
  | .rLen => false
  | .rCsum => false
  | .rPay => false
  | .wSeek => false
  | .wType => false
  | .timeout => false
  | .ack => false
  | .nak => false
  | .ackAbort => false
  | .command _ _ => false
  | .data _ _ => false
  | .ping => false
  | .pingResponse _ => false

/-- The stages of a READ at which the header's type byte has been accepted. -/
def Stage.inFrame : Stage → Bool
  | .rLen => true
  | .rCsum => true
  | .rPay => true
  | .rVerify => true
  | .idle => false
  | .rSeek => false
  | .rType => false
  | .wSeek => false
  | .wType => false

/-- The stages of a READ at which the length field is complete. -/
def Stage.lengthKnown : Stage → Bool
  | .rCsum => true
  | .rPay => true
  | .rVerify => true
  | .idle => false
  | .rSeek => false
  | .rType => false
  | .rLen => false
  | .wSeek => false
  | .wType => false

/-- The ring and the cursors (R115, R120). -/
structure RingInv (s : State) : Prop where
  /-- R7, R21, R22. -/
  cursors : CursorsOk s
  /-- The cells are in canonical form. -/
  form : s.ring.wf
  /-- No cell lies outside the array (R60). -/
  range : ∀ x ∈ s.ring, x.1 < s.cfg.cap
  /-- R120: every slot the consumer can reach has been written. -/
  written : ∀ i < ringAvail s, (s.ring.get (ringSlot s i)).isSome = true

/-- The payload and frame buffers (R31, R32, R60). -/
structure BufferInv (s : State) : Prop where
  /-- `RXBUF`'s cells are in canonical form. -/
  rxForm : s.rxbuf.wf
  /-- `RXBUF` has `RX_CAP` bytes. -/
  rxRange : ∀ x ∈ s.rxbuf, x.1 < s.cfg.rxCap
  /-- R158, R264: the buffer has been zeroed before a payload byte is stored or verified. -/
  rxWritten : s.stage = .rPay ∨ s.stage = .rVerify →
    ∀ i < s.cfg.rxCap, (s.rxbuf.get i).isSome = true
  /-- A delivered length fits the buffer. -/
  rxLen : s.rxLen.toNat ≤ s.cfg.rxCap
  /-- `TXBUF`'s cells are in canonical form. -/
  txForm : s.txbuf.wf
  /-- `TXBUF` has `TX_CAP + 6` bytes. -/
  txRange : ∀ x ∈ s.txbuf, x.1 < s.cfg.txCap + 6
  /-- `tx_len` is at most `TX_CAP + 6` (R32). -/
  txLen : s.txLen ≤ s.cfg.txCap + 6
  /-- The retained frame has been written. -/
  txWritten : ∀ i < s.txLen, (s.txbuf.get i).isSome = true
  /-- R264: while a reply is awaited there is a frame to retransmit. -/
  txRetained : s.stage = .wSeek ∨ s.stage = .wType → 6 ≤ s.txLen

/-- The sequencer, its latches and the SESSION flags (R26, R28, R29, R36, R170, R230). -/
structure SequencerInv (s : State) : Prop where
  /-- R36: at most one of the owed flags is set. -/
  owedOne : ¬ (s.ackOwed = true ∧ s.abortOwed = true)
  /-- R170, and the same for a WRITE: nothing is owed inside a call. -/
  owedIdle : s.stage ≠ .idle → s.ackOwed = false ∧ s.abortOwed = false
  /-- A fault is raised only between calls (R207). -/
  fltIdle : s.flt = true → s.stage = .idle
  /-- The harness reads the ring only between calls and without a fault (R43, R38). -/
  rdxIdle : s.rdx.isSome = true → s.stage = .idle ∧ s.flt = false
  /-- R230: codes 5 and 6 never appear in `result`. -/
  result : s.result ≠ .checksumMismatch ∧ s.result ≠ .callerContractViolation
  /-- R26: the counter of a two-byte field is 0 or 1. -/
  fieldCount : s.stage = .rLen ∨ s.stage = .rCsum → s.cnt.toNat ≤ 1
  /-- R159: the payload counter stays below `len_eff`. -/
  payloadCount : s.stage = .rPay → s.cnt.toNat < s.lenEff.toNat
  /-- R28: `hdr[0]` is the start marker. -/
  marker : s.stage = .rType ∨ s.stage.inFrame = true → s.hdr0 = s.cfg.sof
  /-- R155: `hdr[1]` is the expected type. -/
  type : s.stage.inFrame = true → s.hdr1 = classCode s.cfg s.exp
  /-- R29: `len_eff` is the clamped length. -/
  length : s.stage.lengthKnown = true → s.lenEff = clampLen s.cfg s.lenWire
  /-- R28: `hdr[2..3]` hold the length the checksum covers. -/
  lengthBytes : s.stage.lengthKnown = true →
    s.hdr2 = loByte (checksumLen s.cfg s.lenWire) ∧ s.hdr3 = hiByte (checksumLen s.cfg s.lenWire)

/-- The invariant of the block: what every state a run can reach satisfies. -/
structure Inv (s : State) : Prop where
  ring : RingInv s
  buffers : BufferInv s
  sequencer : SequencerInv s

end Sys2Proof.Machine
end

