-- ==== Sys2Proof/Certificates/Slice0/Obligations.lean ====
section
/-! DEFINITION. The statements for the provers. Each docstring names the rule of spec/ it formalises, or says
that the clause is the model's choice and names the log entry. -/

open Sys2Proof Sys2Proof.Machine

/-- R260, with the values of R50: what reset leaves, for every well-formed configuration. -/
def Obligations.ResetLeavesTheNamedValues : Prop :=
  ∀ c : Config, c.wf = true → ∃ s : State, s = State.resetOf c ∧ s.cfg = c ∧ s.wr = 0 ∧ s.rd = 0 ∧ s.stage = .idle ∧ s.cnt = 0 ∧
    s.ackOwed = false ∧ s.abortOwed = false ∧ s.b2b = false ∧ s.flt = false ∧ s.txLen = 0 ∧ s.rxLen = 0 ∧
    s.result = .ok ∧ s.retVal = 0 ∧ s.tx = [] ∧ ringAvail s = 0 ∧ isFinal s

/-- R7 and R110: exactly the configurations that meet the four clauses are instantiated, at their reset state;
that `step` refuses the others too is log 24. -/
def Obligations.InstantiationRefusesExactlyIllFormedConfigurations : Prop :=
  ∀ c : Config,
    (((∃ k, 1 ≤ k ∧ c.cap = 2 ^ k) ∧ c.rxCap ≤ 65535 ∧ c.txCap ≤ 65535 ∧
        List.Pairwise (· ≠ ·) [c.tAck, c.tNak, c.tAckAbort, c.tCmd, c.tData, c.tPing, c.tPingResp] ∧ c.rsvd = 0) →
      instantiate c = .next (State.resetOf c)) ∧
    (¬ ((∃ k, 1 ≤ k ∧ c.cap = 2 ^ k) ∧ c.rxCap ≤ 65535 ∧ c.txCap ≤ 65535 ∧
        List.Pairwise (· ≠ ·) [c.tAck, c.tNak, c.tAckAbort, c.tCmd, c.tData, c.tPing, c.tPingResp] ∧ c.rsvd = 0) →
      instantiate c = .refused .illFormedConfig ∧
        ∀ s : State, s.cfg = c → step s = .refused .illFormedConfig)

/-- R111: `ENQ` stores at `wr`, moves `wr` on modulo `CAP`, and touches nothing else, in every state whose
cursor holds a `K`-bit value (R21). -/
def Obligations.EnqStoresAtWriteCursorAndAdvances : Prop :=
  ∀ (s : State) (b : Byte), s.cfg.wf = true → s.wr < s.cfg.cap →
    ∃ t, exec (.enq b) s = .next t ∧ t.ring.get s.wr = some b ∧
      (∀ a, a ≠ s.wr → t.ring.get a = s.ring.get a) ∧ t.wr = (s.wr + 1) % s.cfg.cap ∧
      t = { s with ring := t.ring, wr := t.wr }

/-- R112: `EMPTY` and `AVAIL` answer from the two cursors and change nothing but the port's answer, which
log 9 keeps in State. -/
def Obligations.EmptyAndAvailReportOccupancy : Prop :=
  ∀ s : State, CursorsOk s →
    exec .empty s = .next { s with portRet := .flag (decide (s.rd = s.wr)) } ∧
    ∃ n, exec .avail s = .next { s with portRet := .count n } ∧ n < s.cfg.cap ∧
      n = (if s.rd ≤ s.wr then s.wr - s.rd else s.wr + s.cfg.cap - s.rd)

/-- R72 item 1, the producer's half: without an overflow a byte joins the end of what the consumer will get. -/
def Obligations.EnqAppendsWhereNoOverflow : Prop :=
  ∀ (s : State) (b : Byte), CursorsOk s → ringAvail s < s.cfg.cap - 1 →
    ∃ t, exec (.enq b) s = .next t ∧ ringContents t = ringContents s ++ [some b] ∧
      ringAvail t = ringAvail s + 1 ∧ t.rd = s.rd

/-- R113 and R72 item 1, the consumer's half: `DEQ` answers the oldest byte and takes exactly it away. -/
def Obligations.DeqReturnsTheOldestByte : Prop :=
  ∀ (s : State) (b : Byte) (rest : List (Option Byte)), CursorsOk s → ClientFree s →
    ringContents s = some b :: rest →
    ∃ t, exec .deq s = .next t ∧ ringContents t = rest ∧
      t = { s with rd := (s.rd + 1) % s.cfg.cap, portRet := .byte b }

/-- R114, R116: on an empty ring every reading operation holds, `RDX` at its first turn (which records the
transfer, log 10) and at every later one. That the model renders a hold as a step which moves nothing is log 7. -/
def Obligations.EmptyRingHoldsEveryReader : Prop :=
  ∀ s : State, s.rd = s.wr →
    (ClientFree s → exec .deq s = .next s) ∧
    (∀ (n : Nat) (tmo : TmoSel), ClientFree s → 1 ≤ n →
      exec (.rdx n tmo) s = .next { s with rdx := some { want := n, tmo := tmo, got := [] } }) ∧
    (∀ x : RdxTransfer, InStage s .idle → s.rdx = some x → x.got.length < x.want →
      exec (.rdx x.want x.tmo) s = .next s) ∧
    (∀ p : Stage × Instr,
      p ∈ [(.rSeek, .rSeek), (.rType, .rType), (.rLen, .rLen), (.rCsum, .rCsum), (.rPay, .rPay),
           (.wSeek, .wSeek), (.wType, .wType)] →
      InStage s p.1 → exec p.2 s = .next s)

/-- R270 item 1: an overflowing `ENQ` makes the ring test empty and sets nothing. -/
def Obligations.OverflowingEnqEmptiesTheRing : Prop :=
  ∀ (s : State) (b : Byte), CursorsOk s → enqOverflows s →
    ∃ t, exec (.enq b) s = .next t ∧ t.wr = t.rd ∧ ringContents t = [] ∧ t.ring.get s.wr = some b ∧
      t = { s with ring := t.ring, wr := s.rd }

/-- R270 item 3: after `k` `ENQ`s into an empty ring the consumer sees exactly the last `k mod CAP` bytes. -/
def Obligations.BurstIntoEmptyRingKeepsTheNewest : Prop :=
  ∀ (s : State) (bs : List Byte), CursorsOk s → s.rd = s.wr →
    ∃ t, runOps (bs.map .enq) s = .next t ∧ ringAvail t = bs.length % s.cfg.cap ∧
      ringContents t = (bs.drop (bs.length / s.cfg.cap * s.cfg.cap)).map some ∧
      t = { s with ring := t.ring, wr := t.wr }

/-- R116: one turn of the loop with a byte there: the byte is taken; with the last one `RDX` ends `OK`. That a
transfer is held in State and that each scheduling is one turn is log 10. -/
def Obligations.RdxTurnTakesOneByte : Prop :=
  ∀ (s : State) (n : Nat) (tmo : TmoSel) (b : Byte), NextByte s b → ClientFree s → 1 ≤ n →
    exec (.rdx n tmo) s = .next { s with
      rd := (s.rd + 1) % s.cfg.cap
      portRet := if n = 1 then .bytes [b] else s.portRet
      rdx := if n = 1 then none else some { want := n, tmo := tmo, got := [b] } }

/-- R116: `RDX n` yields exactly the first `n` bytes in order, and `RDX 0` ends at once. -/
def Obligations.RdxReturnsTheFirstBytesInOrder : Prop :=
  ∀ (s : State) (tmo : TmoSel) (bs : List Byte) (rest : List (Option Byte)), CursorsOk s → ClientFree s →
    ringContents s = bs.map some ++ rest →
    ∃ t, runOps (List.replicate (max bs.length 1) (.rdx bs.length tmo)) s = .next t ∧
      ringContents t = rest ∧ t = { s with rd := t.rd, portRet := .bytes bs }

/-- R118: where its guard holds the time-out draw ends the call with `Timeout` and changes nothing else; where
neither it nor the guard of an `RDX` in progress holds, there is no such step (a refusal, log 8). -/
def Obligations.TimeoutDrawEndsABoundedWait : Prop :=
  ∀ s : State,
    ((s.stage = .rType ∨ s.stage = .rLen ∨ s.stage = .rCsum ∨ s.stage = .rPay ∨ s.stage = .wType) ∧
        s.flt = false ∧ s.tmo = .bounded ∧ s.cfg.timeoutImpl = true ∧ s.rd = s.wr →
      exec .timeout s = .next { s with result := .timeout, stage := .idle }) ∧
    (¬ ((s.stage = .rType ∨ s.stage = .rLen ∨ s.stage = .rCsum ∨ s.stage = .rPay ∨ s.stage = .wType) ∧
        s.flt = false ∧ s.tmo = .bounded ∧ s.cfg.timeoutImpl = true ∧ s.rd = s.wr) →
      (∀ x, s.rdx = some x → ¬ (s.flt = false ∧ x.tmo = .bounded ∧ s.cfg.timeoutImpl = true ∧ s.rd = s.wr)) →
      exec .timeout s = .refused .drawNotEnabled)

/-- R116, R119: an expired `RDX` answers `Timeout` and gives nothing back (the transfer in State is log 10). -/
def Obligations.RdxTimeoutGivesNothingBack : Prop :=
  ∀ (s : State) (x : RdxTransfer), InStage s .idle → s.rdx = some x → x.tmo = .bounded →
    s.cfg.timeoutImpl = true → s.rd = s.wr →
    exec .timeout s = .next { s with portRet := .timedOut x.got, rdx := none }

/-- R131 and R138: `CRC_CFG` loads the five registers and the accumulator; configured as the FRAMER does, the
three engine calls return `CRC16`. -/
def Obligations.CrcEngineComputesCrcSixteen : Prop :=
  ∀ (s : State) (poly init xorout : U16) (refin refout : Bool) (bs : List Byte),
    exec (.crcCfg poly init refin refout xorout) s = .next { s with
      crcPoly := poly, crcInit := init, crcRefin := refin, crcRefout := refout, crcXorout := xorout,
      crcAcc := init } ∧
    runOps [.crcCfg 0x1021 0 false false 0, .crcAcc bs, .crcFin] s = .next { s with
      crcPoly := 0x1021, crcInit := 0, crcRefin := false, crcRefout := false, crcXorout := 0,
      crcAcc := crc16 bs, portRet := .word (crc16 bs) }

/-- R132: `CRC_ACC` feeds the bytes first to last through R133, writes only `crc_acc`, and may be split freely. -/
def Obligations.CrcAccumulateFeedsBytesInOrder : Prop :=
  ∀ (s : State) (b : Byte) (u v : List Byte),
    exec (.crcAcc []) s = .next s ∧
    (∃ t, exec (.crcAcc u) s = .next t ∧ t = { s with crcAcc := t.crcAcc }) ∧
    exec (.crcAcc (b :: u)) s = exec (.crcAcc u) { s with crcAcc := crcByte s.crcPoly s.crcRefin s.crcAcc b } ∧
    runOps [.crcAcc u, .crcAcc v] s = exec (.crcAcc (u ++ v)) s

/-- R134: what `CRC_FIN` returns, bit by bit; it changes nothing but the port's answer. -/
def Obligations.CrcFinishReturnsTheReflectedXoredAccumulator : Prop :=
  ∀ s : State, ∃ v : U16, exec .crcFin s = .next { s with portRet := .word v } ∧
    ∀ i, i < 16 → v.getLsbD i =
      ((if s.crcRefout then s.crcAcc.getLsbD (15 - i) else s.crcAcc.getLsbD i) ^^ s.crcXorout.getLsbD i)

/-- R133, the table form with its single-bit entries, and the reflected input. -/
def Obligations.CrcByteHasTheTableForm : Prop :=
  (∀ (acc : U16) (b : Byte), crcByte 0x1021 false acc b =
      (acc <<< 8) ^^^ crcByte 0x1021 false 0 ((acc >>> 8).setWidth 8 ^^^ b)) ∧
  (∀ j k : Byte, crcByte 0x1021 false 0 (j ^^^ k) = crcByte 0x1021 false 0 j ^^^ crcByte 0x1021 false 0 k) ∧
  ([0x00, 0x01, 0x02, 0x04, 0x08, 0x10, 0x20, 0x40, 0x80, 0xFF] : List Byte).map (crcByte 0x1021 false 0) =
    [0x0000, 0x1021, 0x2042, 0x4084, 0x8108, 0x1231, 0x2462, 0x48C4, 0x9188, 0x1EF0] ∧
  (∀ (poly acc : U16) (b d : Byte), (∀ i, i < 8 → d.getLsbD i = b.getLsbD (7 - i)) →
    crcByte poly true acc b = crcByte poly false acc d)

/-- R140 laws 1 to 4: empty input, zero bytes at the front, linearity over XOR, zero residue when the checksum is
appended high byte first. -/
def Obligations.CrcSixteenIsLinearWithZeroResidue : Prop :=
  crc16 [] = 0 ∧ (∀ m : List Byte, crc16 (0 :: m) = crc16 m) ∧
  (∀ a b : List Byte, a.length = b.length → crc16 (List.zipWith (· ^^^ ·) a b) = crc16 a ^^^ crc16 b) ∧
  ∀ m : List Byte, crc16 (m ++ [hiByte (crc16 m), loByte (crc16 m)]) = 0

/-- R140 law 5: an error whose bits all lie within 16 consecutive bits of the message changes the value. A
single-bit error is the case of one such bit, in a message of any length from one byte on. -/
def Obligations.CrcSixteenDetectsEveryBurstOfAtMostSixteenBits : Prop :=
  ∀ m e : List Byte, m.length = e.length → m ≠ e →
    (∃ k, ∀ j, messageBit m j ≠ messageBit e j → k ≤ j ∧ j < k + 16) → crc16 m ≠ crc16 e

/-- R150: the acceptance step of `READ`. The NULL pointer is rejected before any I/O; else what is owed goes out
and the call is latched. -/
def Obligations.ReadAcceptanceStep : Prop :=
  ∀ (s : State) (e : FrameClass) (tmo : TmoSel), ClientFree s → OwedOne s →
    exec (.read e tmo .null) s = .next { s with result := .invalidArgument } ∧
    exec (.read e tmo .valid) s = .next { s with
      tx := s.tx ++ owedBytes s
      ackOwed := false
      abortOwed := false
      b2b := s.b2b || s.ackOwed || s.abortOwed
      exp := e
      tmo := tmo
      stage := .rSeek }

/-- R42, R38, R243, R272: while the sequencer is busy or faulted the client port accepts nothing (a refusal, U11,
log 8), nor beside an `RDX` of the harness (log 10); the consumer port has no step with `flt = 1` (log 27) and none
beside another reader (log 20). -/
def Obligations.BusyOrFaultedBlockRefusesClientCalls : Prop :=
  ∀ s : State,
    (¬ ClientFree s →
      (∀ e t d, exec (.read e t d) s = .refused .callNotAccepted) ∧
      (∀ cls p t, exec (.write cls p t) s = .refused .callNotAccepted) ∧
      exec .finalize s = .refused .callNotAccepted ∧ exec .abort s = .refused .callNotAccepted ∧
      exec .maxpay s = .refused .callNotAccepted) ∧
    (s.flt = true → exec .deq s = .refused .sequencerFaulted ∧
      (∀ n tmo, exec (.rdx n tmo) s = .refused .sequencerFaulted) ∧
      exec .timeout s = .refused .drawNotEnabled) ∧
    (s.flt = false → s.stage ≠ .idle → exec .deq s = .refused .secondReader ∧
      ∀ n tmo, exec (.rdx n tmo) s = .refused .secondReader) ∧
    (∀ x, InStage s .idle → s.rdx = some x → exec .deq s = .refused .secondReader ∧
      ∀ n tmo, ¬ (x.want = n ∧ x.tmo = tmo) → exec (.rdx n tmo) s = .refused .secondReader)

/-- R180 and R183: an oversized payload is an invalid argument before any I/O; else what is owed goes out first,
then the frame, which `TXBUF` retains; the CRC engine is left as R141 says. -/
def Obligations.WriteAcceptanceStep : Prop :=
  ∀ (s : State) (cls : FrameClass) (p : List Byte) (tmo : TmoSel), s.cfg.wf = true → ClientFree s → OwedOne s →
    (s.cfg.txCap < p.length → exec (.write cls p tmo) s = .next { s with result := .invalidArgument }) ∧
    (p.length ≤ s.cfg.txCap → ∃ t, exec (.write cls p tmo) s = .next t ∧
      t.tx = s.tx ++ owedBytes s ++ builtFrame s.cfg cls p ∧
      (∀ a, t.txbuf.get a = if a < 6 + p.length then (builtFrame s.cfg cls p)[a]? else s.txbuf.get a) ∧
      t = { s with
        tx := t.tx, txbuf := t.txbuf, txLen := 6 + p.length
        ackOwed := false, abortOwed := false, b2b := false, tmo := tmo, stage := .wSeek
        crcAcc := crc16 (frameHeader s.cfg cls p.length ++ p), crcPoly := 0x1021, crcInit := 0
        crcRefin := false, crcRefout := false, crcXorout := 0 })

/-- R205: `FINALIZE` discharges now, and only that. -/
def Obligations.FinalizeDischargesWhatIsOwed : Prop :=
  ∀ s : State, ClientFree s → OwedOne s →
    exec .finalize s = .next { s with
      tx := s.tx ++ owedBytes s
      ackOwed := false
      abortOwed := false
      b2b := s.b2b || s.ackOwed || s.abortOwed
      result := .ok }

/-- R206 and R207: `ABORT` turns an owed ACK into an owed ACK-ABORT, which the next discharge sends; with no ACK
owed it is the sticky fault. -/
def Obligations.AbortConvertsAnOwedAckOrFaults : Prop :=
  ∀ s : State, ClientFree s →
    (s.ackOwed = true → exec .abort s = .next { s with ackOwed := false, abortOwed := true, result := .ok }) ∧
    (s.ackOwed = true → runOps [.abort, .finalize] s = .next { s with
      tx := s.tx ++ [s.cfg.sof, s.cfg.tAckAbort], ackOwed := false, abortOwed := false, b2b := true
      result := .ok }) ∧
    (s.ackOwed = false → exec .abort s = .next { s with flt := true })

/-- R209: `MAXPAY` reports `TX_CAP`. -/
def Obligations.MaxpayReportsTheTransmitCapacity : Prop :=
  ∀ s : State, s.cfg.wf = true → ClientFree s →
    ∃ t, exec .maxpay s = .next t ∧ t.retVal.toNat = s.cfg.txCap ∧ t = { s with retVal := t.retVal, result := .ok }

/-- R152: `R_SEEK` keeps a start marker and drops every other byte. -/
def Obligations.ReadSeekKeepsOnlyTheStartMarker : Prop :=
  ∀ (s : State) (b : Byte), NextByte s b → InStage s .rSeek →
    (b = s.cfg.sof → exec .rSeek s =
      .next { s with rd := (s.rd + 1) % s.cfg.cap, hdr0 := s.cfg.sof, stage := .rType }) ∧
    (b ≠ s.cfg.sof → exec .rSeek s = .next { s with rd := (s.rd + 1) % s.cfg.cap })

/-- R154, R210, R211: a probe is consumed, answered exactly when the link is idle, and the seek resumes. -/
def Obligations.ReadTypeAnswersAProbeOnAnIdleLink : Prop :=
  ∀ s : State, NextByte s s.cfg.tPing → InStage s .rType →
    ((s.ackOwed = false ∧ s.abortOwed = false ∧ s.b2b = false) → exec .rType s = .next { s with
      rd := (s.rd + 1) % s.cfg.cap
      tx := s.tx ++ responseFrame s.cfg (ownRecord s.cfg)
      stage := .rSeek }) ∧
    (¬ (s.ackOwed = false ∧ s.abortOwed = false ∧ s.b2b = false) → exec .rType s = .next { s with
      rd := (s.rd + 1) % s.cfg.cap
      stage := .rSeek })

/-- R155: the expected type is accepted; any other ends the call with `ProtocolMismatch`. -/
def Obligations.ReadTypeAcceptsOnlyTheExpectedClass : Prop :=
  ∀ (s : State) (b : Byte), NextByte s b → InStage s .rType → b ≠ s.cfg.tPing →
    (b = classCode s.cfg s.exp → exec .rType s = .next { s with
      rd := (s.rd + 1) % s.cfg.cap, hdr1 := b, b2b := false, stage := .rLen, cnt := 0 }) ∧
    (b ≠ classCode s.cfg s.exp → exec .rType s = .next { s with
      rd := (s.rd + 1) % s.cfg.cap, b2b := false, result := .protocolMismatch, stage := .idle })

/-- R156: the length field is assembled little-endian and clamped; `hdr[2..3]` take the length that
`CRC_LEN_SRC` names. -/
def Obligations.ReadLengthAssemblesAndClamps : Prop :=
  ∀ (s : State) (b : Byte), NextByte s b → InStage s .rLen →
    (s.cnt = 0 → ∃ t, exec .rLen s = .next t ∧
      t.lenWire.toNat = s.lenWire.toNat / 256 * 256 + b.toNat ∧
      t = { s with rd := (s.rd + 1) % s.cfg.cap, lenWire := t.lenWire, cnt := 1 }) ∧
    (s.cnt ≠ 0 → ∃ t, exec .rLen s = .next t ∧
      t.lenWire.toNat = b.toNat * 256 + s.lenWire.toNat % 256 ∧
      t.lenEff.toNat = min t.lenWire.toNat s.cfg.rxCap ∧
      t.hdr2.toNat + 256 * t.hdr3.toNat =
        (match s.cfg.crcLenSrc with | .clamped => t.lenEff.toNat | .wire => t.lenWire.toNat) ∧
      t = { s with rd := (s.rd + 1) % s.cfg.cap, lenWire := t.lenWire, lenEff := t.lenEff, hdr2 := t.hdr2
                   hdr3 := t.hdr3, stage := .rCsum, cnt := 0 })

/-- R157 and R158: the checksum field is assembled little-endian; the step that completes it zeroes all of
`RXBUF` and goes to the payload, or to verify where there is none. -/
def Obligations.ReadChecksumAssemblesAndZeroesTheBuffer : Prop :=
  ∀ (s : State) (b : Byte), NextByte s b → InStage s .rCsum →
    (s.cnt = 0 → ∃ t, exec .rCsum s = .next t ∧
      t.csumRx.toNat = s.csumRx.toNat / 256 * 256 + b.toNat ∧
      t = { s with rd := (s.rd + 1) % s.cfg.cap, csumRx := t.csumRx, cnt := 1 }) ∧
    (s.cnt ≠ 0 → ∃ t, exec .rCsum s = .next t ∧
      t.csumRx.toNat = b.toNat * 256 + s.csumRx.toNat % 256 ∧
      (∀ a, t.rxbuf.get a = if a < s.cfg.rxCap then some 0 else s.rxbuf.get a) ∧
      t = { s with rd := (s.rd + 1) % s.cfg.cap, csumRx := t.csumRx, rxbuf := t.rxbuf
                   stage := if s.lenEff = 0 then .rVerify else .rPay
                   cnt := if s.lenEff = 0 then s.cnt else 0 })

/-- R159: a payload byte is stored verbatim at `cnt`; the last one leads to verify. -/
def Obligations.ReadPayloadStoresOneByte : Prop :=
  ∀ (s : State) (b : Byte), NextByte s b → InStage s .rPay → s.cnt.toNat < s.cfg.rxCap →
    ∃ t, exec .rPay s = .next t ∧ t.rxbuf.get s.cnt.toNat = some b ∧
      (∀ a, a ≠ s.cnt.toNat → t.rxbuf.get a = s.rxbuf.get a) ∧
      (s.cnt.toNat + 1 = s.lenEff.toNat → t = { s with
        rd := (s.rd + 1) % s.cfg.cap, rxbuf := t.rxbuf, stage := .rVerify }) ∧
      (s.cnt.toNat + 1 ≠ s.lenEff.toNat → t.cnt.toNat = s.cnt.toNat + 1 ∧ t = { s with
        rd := (s.rd + 1) % s.cfg.cap, rxbuf := t.rxbuf, cnt := t.cnt })

/-- R161 to R163: verify recomputes the checksum over header and payload; a match owes an ACK and returns `OK`, a
mismatch sends exactly one NAK and seeks again. -/
def Obligations.VerifyOwesAnAckOrSendsOneNak : Prop :=
  ∀ (s : State) (p : List Byte), InStage s .rVerify → p.length = s.lenEff.toNat → p.length ≤ s.cfg.rxCap →
    (∀ i (h : i < p.length), s.rxbuf.get i = some p[i]) →
    (crc16 ([s.hdr0, s.hdr1, s.hdr2, s.hdr3] ++ p) = s.csumRx → exec .rVerify s = .next { s with
      crcAcc := s.csumRx, crcPoly := 0x1021, crcInit := 0, crcRefin := false, crcRefout := false, crcXorout := 0
      ackOwed := true, rxLen := s.lenEff, result := .ok, stage := .idle }) ∧
    (crc16 ([s.hdr0, s.hdr1, s.hdr2, s.hdr3] ++ p) ≠ s.csumRx → exec .rVerify s = .next { s with
      crcAcc := crc16 ([s.hdr0, s.hdr1, s.hdr2, s.hdr3] ++ p), crcPoly := 0x1021, crcInit := 0
      crcRefin := false, crcRefout := false, crcXorout := 0
      tx := s.tx ++ [s.cfg.sof, s.cfg.tNak], b2b := true, stage := .rSeek })

/-- R215: `W_SEEK` drops every byte that is not the start marker; `hdr[]` is not written. -/
def Obligations.WriteSeekKeepsOnlyTheStartMarker : Prop :=
  ∀ (s : State) (b : Byte), NextByte s b → InStage s .wSeek →
    (b = s.cfg.sof → exec .wSeek s = .next { s with rd := (s.rd + 1) % s.cfg.cap, stage := .wType }) ∧
    (b ≠ s.cfg.sof → exec .wSeek s = .next { s with rd := (s.rd + 1) % s.cfg.cap })

/-- R216 and R217: the reply's type ends the `WRITE`, or a NAK sends the retained frame again and waits again. -/
def Obligations.WriteTypeEndsTheCallOrRetransmits : Prop :=
  ∀ (s : State) (b : Byte), NextByte s b → InStage s .wType →
    (b = s.cfg.tAck → exec .wType s = .next { s with
      rd := (s.rd + 1) % s.cfg.cap, b2b := false, result := .ok, stage := .idle }) ∧
    (b = s.cfg.tAckAbort → exec .wType s = .next { s with
      rd := (s.rd + 1) % s.cfg.cap, b2b := false, result := .abort, stage := .idle }) ∧
    (b = s.cfg.tNak → ∀ f : List Byte, f.length = s.txLen → s.txLen ≤ s.cfg.txCap + 6 →
      (∀ i (h : i < f.length), s.txbuf.get i = some f[i]) → exec .wType s = .next { s with
      rd := (s.rd + 1) % s.cfg.cap, b2b := false, tx := s.tx ++ f, stage := .wSeek }) ∧
    (b ∉ [s.cfg.tAck, s.cfg.tNak, s.cfg.tAckAbort] → exec .wType s = .next { s with
      rd := (s.rd + 1) % s.cfg.cap, b2b := false, result := .protocolMismatch, stage := .idle })

/-- R13, R38: a stage step exists only in its own stage and without a fault (else a refusal, log 8). -/
def Obligations.StageStepsNeedTheirStage : Prop :=
  ∀ (s : State) (p : Stage × Instr),
    p ∈ [(.rSeek, .rSeek), (.rType, .rType), (.rLen, .rLen), (.rCsum, .rCsum), (.rPay, .rPay),
         (.rVerify, .rVerify), (.wSeek, .wSeek), (.wType, .wType)] →
    (s.stage ≠ p.1 ∨ s.flt = true) → exec p.2 s = .refused .stageNotActive

/-- R201: `Discharge` sends what is owed, once. -/
def Obligations.DischargeSendsWhatIsOwed : Prop :=
  ∀ s : State,
    (s.ackOwed = true → exec .discharge s = .next { s with
      tx := s.tx ++ [s.cfg.sof, s.cfg.tAck], ackOwed := false, b2b := true }) ∧
    (s.ackOwed = false → s.abortOwed = true → exec .discharge s = .next { s with
      tx := s.tx ++ [s.cfg.sof, s.cfg.tAckAbort], abortOwed := false, b2b := true }) ∧
    (s.ackOwed = false → s.abortOwed = false → exec .discharge s = .next s)

/-- R182, R185, R210, R211: the emitters of sync frames and of the response. That `SyncEmit` alone also takes
`T_PING`, which R182 says the block never sends, is the model's choice (log 23). -/
def Obligations.SyncAndResponseEmitters : Prop :=
  ∀ s : State,
    (∀ t, exec (.syncEmit t) s = .next { s with tx := s.tx ++ [s.cfg.sof, syncCode s.cfg t] }) ∧
    (exec .respEmit s = .next { s with tx := s.tx ++
      [s.cfg.sof, s.cfg.tPingResp, s.cfg.verBugfix, s.cfg.verMinor, s.cfg.verMajor, s.cfg.name,
       loByte s.cfg.rsvd, hiByte s.cfg.rsvd, loByte s.cfg.pingMark, hiByte s.cfg.pingMark] }) ∧
    (s.ackOwed = false ∧ s.abortOwed = false ∧ s.b2b = false → exec .respond s = exec .respEmit s ∧
      ∃ t, exec .respond s = .next t) ∧
    (¬ (s.ackOwed = false ∧ s.abortOwed = false ∧ s.b2b = false) → exec .respond s = .next s)

/-- R183: the frame `BuildData` leaves in `TXBUF`, the bytes behind it untouched. -/
def Obligations.BuildDataLaysOutTheFrame : Prop :=
  ∀ (s : State) (cls : FrameClass) (p : List Byte), p.length ≤ s.cfg.txCap →
    ∃ t, exec (.buildData cls p) s = .next t ∧
      (∀ a, t.txbuf.get a = if a < 6 + p.length then (builtFrame s.cfg cls p)[a]? else s.txbuf.get a) ∧
      t = { s with
        txbuf := t.txbuf, txLen := 6 + p.length
        crcAcc := crc16 (frameHeader s.cfg cls p.length ++ p), crcPoly := 0x1021, crcInit := 0
        crcRefin := false, crcRefout := false, crcXorout := 0 }

/-- R184: `SendTxbuf` emits the retained frame and changes neither `TXBUF` nor `tx_len`, so twice in a row it
emits the same bytes. -/
def Obligations.SendTxbufRepeatsTheRetainedFrame : Prop :=
  ∀ (s : State) (f : List Byte), f.length = s.txLen → s.txLen ≤ s.cfg.txCap + 6 →
    (∀ i (h : i < f.length), s.txbuf.get i = some f[i]) →
    exec .sendTxbuf s = .next { s with tx := s.tx ++ f, b2b := false } ∧
    runOps [.sendTxbuf, .sendTxbuf] s = .next { s with tx := s.tx ++ f ++ f, b2b := false }

/-- R95, R82, R83, R86: each of the seven frames on the line is its bytes, one `ENQ` each, in wire order (that a
frame row means its arrival is log 12). -/
def Obligations.FrameArrivalIsItsBytesEnqueued : Prop :=
  ∀ (s : State) (k : U16) (p : List Byte) (r : HandshakeRecord), s.cfg.wf = true → s.wr < s.cfg.cap →
    ∀ f : Instr × List Byte,
      f ∈ [(.ack, [s.cfg.sof, s.cfg.tAck]), (.nak, [s.cfg.sof, s.cfg.tNak]),
           (.ackAbort, [s.cfg.sof, s.cfg.tAckAbort]), (.ping, [s.cfg.sof, s.cfg.tPing]),
           (.command k p, dataFrame s.cfg .cmd k p), (.data k p, dataFrame s.cfg .data k p),
           (.pingResponse r, responseFrame s.cfg r)] →
      encode s.cfg f.1 = some f.2 ∧
      ∃ t, exec f.1 s = .next t ∧ runOps (f.2.map .enq) s = .next t ∧ t.wr = (s.wr + f.2.length) % s.cfg.cap ∧
        t = { s with ring := t.ring, wr := t.wr }

/-- R80 to R88: decoding the encoding of a well-formed frame gives it back, with every operand at every value. -/
def Obligations.DecodeOfEncodeIsTheFrame : Prop :=
  ∀ (c : Config) (i : Instr) (bs rest : List Byte), c.wf = true → i.wf c = true → encode c i = some bs →
    decode c (bs ++ rest) = .ok (i, rest)

/-- R80 to R88, the other way: what decodes is the encoding of a well-formed frame, so no byte string has two
readings and no byte is dropped. -/
def Obligations.EncodeOfDecodeIsTheBytes : Prop :=
  ∀ (c : Config) (i : Instr) (bs rest : List Byte), decode c bs = .ok (i, rest) →
    ∃ e, encode c i = some e ∧ bs = e ++ rest ∧ i.wf c = true

/-- R87, R188: words of the default profile, written out from the spec's encodings. -/
def Obligations.SampleWordsDecode : Prop :=
  [0x5AA1, 0x5AA2, 0x5AA3, 0x5AA6, 0x5AA8, 0x00A1].map (decodeTableWord 16) =
    [some .ack, some .nak, some .ackAbort, some .ping, none, none] ∧
  decode defaultProfile [0x5A, 0xA5, 0x04, 0x00, 0x12, 0xED, 0x01, 0x02, 0x03, 0x04] =
    .ok (.data 0xED12 [0x01, 0x02, 0x03, 0x04], []) ∧
  decode defaultProfile [0x5A, 0xA7, 0x00, 0x02, 0x01, 0x50, 0x00, 0x00, 0xAA, 0xEA] =
    .ok (.pingResponse (ownRecord defaultProfile), [])

/-- R13, R95: a frame at the head of the line is run by `exec`, its bytes leave the line. The schedule in State is
log 6. -/
def Obligations.StepRunsTheDecodedFrame : Prop :=
  ∀ (s : State) (i : Instr) (bs more : List Byte) (later : List Event), s.cfg.wf = true →
    s.sched = .line bs :: later → decode s.cfg bs = .ok (i, more) →
    step s = exec i { s with sched := if more = [] then later else .line more :: later }

/-- R13, R9: a scheduled operation is run by `exec`; the sequencer, when scheduled or alone, takes its stage's
step, or between calls the turn of an `RDX` in progress (log 10), and has no step when idle with none in progress or
when faulted (log 6, log 7, log 11, log 27). -/
def Obligations.StepRunsTheScheduledOperation : Prop :=
  ∀ (s : State) (later : List Event), s.cfg.wf = true →
    (∀ i, s.sched = .issue i :: later → i.isInternal = false → i.wf s.cfg = true →
      step s = exec i { s with sched := later }) ∧
    (∀ i, s.sched = .issue i :: later → i.isInternal = true → step s = .refused .internalProcedure) ∧
    (∀ p : Stage × Instr,
      p ∈ [(.rSeek, .rSeek), (.rType, .rType), (.rLen, .rLen), (.rCsum, .rCsum), (.rPay, .rPay),
           (.rVerify, .rVerify), (.wSeek, .wSeek), (.wType, .wType)] → InStage s p.1 →
      (s.sched = .seq :: later → step s = exec p.2 { s with sched := later }) ∧
      (s.sched = [] → step s = exec p.2 s)) ∧
    (∀ x, InStage s .idle → s.rdx = some x →
      (s.sched = .seq :: later → step s = exec (.rdx x.want x.tmo) { s with sched := later }) ∧
      (s.sched = [] → step s = exec (.rdx x.want x.tmo) s)) ∧
    ((s.stage = .idle ∧ s.rdx = none) ∨ s.flt = true →
      (s.sched = .seq :: later → step s = .next { s with sched := later }) ∧ (s.sched = [] → step s = .next s))

/-- R261, R260: a device reset puts the whole block to its reset state from any state, a faulted one too (the
event is log 21). -/
def Obligations.DeviceResetClearsTheBlock : Prop :=
  ∀ (s : State) (later : List Event), s.cfg.wf = true → s.sched = .reset :: later →
    ∃ t, step s = .next t ∧ t = { State.resetOf s.cfg with sched := later } ∧ t.flt = false ∧ isFinal t

/-- The invariant holds at the reset state of every well-formed configuration. -/
def Obligations.InvariantHoldsAtReset : Prop :=
  ∀ c : Config, c.wf = true → Inv (State.resetOf c)

/-- R36, R115, R120, R170, R230, R264: every step keeps the invariant. -/
def Obligations.EveryStepKeepsTheInvariant : Prop :=
  ∀ s t : State, Inv s → step s = .next t → Inv t

/-- R60, R120, R264: no access is out of range and none reads a byte that nothing has written: a block in the
invariant never stops with a fault. -/
def Obligations.NoFaultFromTheInvariant : Prop :=
  ∀ (s : State) (f : Fault), Inv s → step s ≠ .fault f

/-- R6, R41, R38, R243: the configuration never changes; but for a device reset `tx` only grows, and in a faulted
block nothing changes but what the producer writes and, for a harness on the ports that are always enabled, the
CRC registers and the port's answer (log 27). -/
def Obligations.ConfigurationFixedStreamGrowsFaultSticks : Prop :=
  ∀ s t : State, step s = .next t → t.cfg = s.cfg ∧
    ((∀ later, s.sched ≠ .reset :: later) → (∃ more, t.tx = s.tx ++ more) ∧
      (s.flt = true → t = { s with
        ring := t.ring, wr := t.wr, sched := t.sched, portRet := t.portRet, crcAcc := t.crcAcc
        crcPoly := t.crcPoly, crcInit := t.crcInit, crcRefin := t.crcRefin, crcRefout := t.crcRefout
        crcXorout := t.crcXorout }))

/-- R115, R247: only the producer's operations change `RING[]` and `wr`, only the readers change `rd`, and never
but by one place. -/
def Obligations.EachCursorHasOneWriter : Prop :=
  ∀ (s t : State) (i : Instr), exec i s = .next t →
    (encode s.cfg i = none → (∀ b, i ≠ .enq b) → t.ring = s.ring ∧ t.wr = s.wr) ∧
    (t.rd ≠ s.rd → t.rd = cursorNext s.cfg s.rd ∧ t.ring = s.ring ∧ t.wr = s.wr ∧
      ((∃ n tmo, i = .rdx n tmo) ∨ i ∈ [.deq, .rSeek, .rType, .rLen, .rCsum, .rPay, .wSeek, .wType]))

/-- R202: only these operations emit; `ABORT`, `MAXPAY`, the producer and the seeks never do. -/
def Obligations.OnlyDischargingAndReplyingStepsEmit : Prop :=
  ∀ (s t : State) (i : Instr), i.isInternal = false → exec i s = .next t → t.tx ≠ s.tx →
    (∃ e tmo, i = .read e tmo .valid) ∨ (∃ cls p tmo, i = .write cls p tmo) ∨
      i ∈ [.finalize, .rType, .rVerify, .wType]

/-- R231 to R235, R205 to R209, R162: which operation can change `result`, to what, and on what condition. -/
def Obligations.EachResultHasItsCause : Prop :=
  ∀ (s t : State) (i : Instr), exec i s = .next t → t.result ≠ s.result →
    (t.result = .invalidArgument ∧ ((∃ e tmo, i = .read e tmo .null) ∨
      ∃ cls p tmo, i = .write cls p tmo ∧ s.cfg.txCap < p.length)) ∨
    (t.result = .timeout ∧ i = .timeout ∧ s.stage.bounded = true ∧ s.tmo = .bounded ∧
      s.cfg.timeoutImpl = true ∧ s.rd = s.wr) ∨
    (t.result = .protocolMismatch ∧ ∃ b, s.ring.get s.rd = some b ∧
      ((i = .rType ∧ b ≠ s.cfg.tPing ∧ b ≠ classCode s.cfg s.exp) ∨
       (i = .wType ∧ b ∉ [s.cfg.tAck, s.cfg.tNak, s.cfg.tAckAbort]))) ∨
    (t.result = .abort ∧ i = .wType ∧ s.ring.get s.rd = some s.cfg.tAckAbort) ∨
    (t.result = .ok ∧ (i = .finalize ∨ i = .maxpay ∨ (i = .abort ∧ s.ackOwed = true) ∨
      (i = .rVerify ∧ t.crcAcc = s.csumRx) ∨ (i = .wType ∧ s.ring.get s.rd = some s.cfg.tAck)))

/-- R220 (which the spec marks as derived): every transition of the owed pair and what it emits. -/
def Obligations.OwedPairMovesOnlyAsTabled : Prop :=
  ∀ (s t : State) (i : Instr), i.isInternal = false → OwedOne s →
    (s.stage ≠ .idle → s.ackOwed = false ∧ s.abortOwed = false) → exec i s = .next t →
    (t.ackOwed = s.ackOwed ∧ t.abortOwed = s.abortOwed) ∨
    (i = .rVerify ∧ s.ackOwed = false ∧ s.abortOwed = false ∧ t.ackOwed = true ∧ t.abortOwed = false ∧
      t.tx = s.tx) ∨
    (i = .abort ∧ s.ackOwed = true ∧ s.abortOwed = false ∧ t.ackOwed = false ∧ t.abortOwed = true ∧ t.tx = s.tx) ∨
    (((∃ e tmo, i = .read e tmo .valid) ∨ (∃ cls p tmo, i = .write cls p tmo) ∨ i = .finalize) ∧
      t.ackOwed = false ∧ t.abortOwed = false ∧ ∃ more, t.tx = s.tx ++ owedBytes s ++ more)

/-- R219 (the spec's own reading, log 17): every write of `b2b`. -/
def Obligations.BackToBackFlagMovesOnlyAsTabled : Prop :=
  ∀ (s t : State) (i : Instr), i.isInternal = false → exec i s = .next t → t.b2b ≠ s.b2b →
    (t.b2b = true ∧ owedBytes s ≠ [] ∧ t.tx = s.tx ++ owedBytes s ∧
      ((∃ e tmo, i = .read e tmo .valid) ∨ i = .finalize)) ∨
    (t.b2b = true ∧ i = .rVerify ∧ t.tx = s.tx ++ [s.cfg.sof, s.cfg.tNak]) ∨
    (t.b2b = false ∧ ((∃ cls p tmo, i = .write cls p tmo) ∨ i = .wType ∨
      (i = .rType ∧ s.ring.get s.rd ≠ some s.cfg.tPing)))

/-- R73: an `ENQ` commutes with every step that neither dequeues nor tests for emptiness, and with a `DEQ` while
the ring holds between 1 and `CAP - 2` bytes. -/
def Obligations.EnqCommutesWhereItMust : Prop :=
  ∀ (s : State) (b : Byte), CursorsOk s →
    (∀ i : Instr, sparesRing i = true → runOps [.enq b, i] s = runOps [i, .enq b] s) ∧
    (∀ x : Byte, ClientFree s → 1 ≤ ringAvail s → ringAvail s ≤ s.cfg.cap - 2 →
      s.ring.get s.rd = some x →
      ∃ t, runOps [.enq b, .deq] s = .next t ∧ runOps [.deq, .enq b] s = .next t)

/-- R217: `N` NAKs and then an ACK: exactly `N` retransmissions of the same bytes, and success. A reply's
arrival as one step is log 12. -/
def Obligations.NakRetransmissionsRepeatTheSameFrame : Prop :=
  ∀ (s : State) (f : List Byte) (n : Nat), CursorsOk s → 2 < s.cfg.cap → s.rd = s.wr → InStage s .wSeek →
    f.length = s.txLen → s.txLen ≤ s.cfg.txCap + 6 → (∀ i (h : i < f.length), s.txbuf.get i = some f[i]) →
    ∃ t, runOps ((List.replicate n [.nak, .wSeek, .wType]).flatten ++ [.ack, .wSeek, .wType]) s = .next t ∧
      t.tx = s.tx ++ (List.replicate n f).flatten ∧ t.result = .ok ∧ t.stage = .idle ∧ t.b2b = false ∧
      t.txbuf = s.txbuf ∧ t.txLen = s.txLen ∧ t.ackOwed = s.ackOwed ∧ t.abortOwed = s.abortOwed ∧ t.rd = t.wr

/-- R186: a frame one block builds is received by another with the same marker and type codes: the same payload,
`OK`, an ACK owed, every byte of it consumed. The whole frame is on the line before it is read, so it must fit the
ring. -/
def Obligations.BuiltFrameIsReceivedIntact : Prop :=
  ∀ (a s : State) (cls : FrameClass) (p : List Byte),
    a.cfg.wf = true → p.length ≤ a.cfg.txCap → a.cfg.sof = s.cfg.sof → a.cfg.types = s.cfg.types →
    CursorsOk s → s.rd = s.wr → InStage s .rSeek → s.exp = cls → p.length ≤ s.cfg.rxCap →
    p.length + 6 < s.cfg.cap →
    ∃ (u : State) (bytes : List Byte) (t : State), exec (.buildData cls p) a = .next u ∧ bytes.length = u.txLen ∧
      (∀ i, i < u.txLen → u.txbuf.get i = bytes[i]?) ∧
      runOps (bytes.map .enq ++ [.rSeek, .rType, .rLen, .rLen, .rCsum, .rCsum] ++
        List.replicate p.length .rPay ++ [.rVerify]) s = .next t ∧
      t.result = .ok ∧ t.stage = .idle ∧ t.lenEff.toNat = p.length ∧ t.rxLen.toNat = p.length ∧
      (∀ i, i < s.cfg.rxCap → t.rxbuf.get i = some (p.getD i 0)) ∧
      t.ackOwed = true ∧ t.b2b = false ∧ t.tx = s.tx ∧ t.rd = t.wr

/-- R163, R234: a frame whose checksum is wrong gets exactly one NAK; the call goes on, no payload is surfaced. -/
def Obligations.CorruptedFrameGetsExactlyOneNak : Prop :=
  ∀ (s : State) (cls : FrameClass) (p : List Byte) (k : U16),
    CursorsOk s → s.rd = s.wr → InStage s .rSeek → s.exp = cls → p.length ≤ s.cfg.rxCap →
    p.length + 6 < s.cfg.cap → k ≠ crc16 (frameHeader s.cfg cls p.length ++ p) →
    ∃ t, runOps ((dataFrame s.cfg cls k p).map .enq ++ [.rSeek, .rType, .rLen, .rLen, .rCsum, .rCsum] ++
        List.replicate p.length .rPay ++ [.rVerify]) s = .next t ∧
      t.tx = s.tx ++ [s.cfg.sof, s.cfg.tNak] ∧ t.stage = .rSeek ∧ t.b2b = true ∧ t.result = s.result ∧
      t.rxLen = s.rxLen ∧ t.ackOwed = s.ackOwed ∧ t.abortOwed = s.abortOwed ∧ t.rd = t.wr

/-- R212, R154: a probe inside a `READ` is answered exactly when `b2b = 0`, and the read goes on seeking. Its
arrival as one step is log 12. -/
def Obligations.ProbeInAReadIsAnsweredIffNotBackToBack : Prop :=
  ∀ s : State, CursorsOk s → 2 < s.cfg.cap → s.rd = s.wr → InStage s .rSeek → s.ackOwed = false →
    s.abortOwed = false →
    ∃ t, runOps [.ping, .rSeek, .rType] s = .next t ∧ t.stage = .rSeek ∧ t.rd = t.wr ∧
      t = { s with ring := t.ring, wr := t.wr, rd := t.rd, hdr0 := s.cfg.sof
                   tx := s.tx ++ if s.b2b then [] else responseFrame s.cfg (ownRecord s.cfg) }
end

