-- ==== Sys2Proof/Laws/Memory.lean ====
section
/-! SUPPORT. The laws of the byte arrays: read after write, what a write leaves alone, and that every write
keeps the canonical form and the range of addresses. -/

namespace Sys2Proof.Machine

@[simp] theorem Memory.get_nil (a : Nat) : Memory.get [] a = none := rfl

/-- A read gives the byte just written there. -/
@[simp] theorem Memory.get_put_same (m : Memory) (a : Nat) (v : Byte) : (Memory.put m a v).get a = some v := by
  induction m with
  | nil => simp [Memory.put, Memory.get]
  | cons x m ih =>
    obtain ⟨k, b⟩ := x
    unfold Memory.put
    split
    · simp [Memory.get]
    · split
      · simp [Memory.get]
      · rename_i h1 h2
        have : k ≠ a := fun h => h2 h.symm
        simp [Memory.get, this, ih]

/-- A write leaves every other address alone. -/
theorem Memory.get_put_other (m : Memory) (a x : Nat) (v : Byte) (h : x ≠ a) :
    (Memory.put m a v).get x = m.get x := by
  have h' : a ≠ x := fun e => h e.symm
  induction m with
  | nil => simp [Memory.put, Memory.get, h']
  | cons y m ih =>
    obtain ⟨k, b⟩ := y
    unfold Memory.put
    split
    · simp [Memory.get, h']
    · split
      · rename_i h2
        have : k ≠ x := fun e => h' (h2.trans e)
        simp [Memory.get, h', this]
      · simp [Memory.get, ih]

theorem Memory.get_put (m : Memory) (a x : Nat) (v : Byte) :
    (Memory.put m a v).get x = if x = a then some v else m.get x := by
  by_cases h : x = a
  · subst h; simp
  · simp [h, Memory.get_put_other m a x v h]

/-- The addresses after a write are those before and the one written. -/
theorem Memory.mem_put {m : Memory} {a : Nat} {v : Byte} {x : Host.Cell} (h : x ∈ Memory.put m a v) :
    x.1 = a ∨ x ∈ m := by
  induction m with
  | nil => simp [Memory.put] at h; simp [h]
  | cons y m ih =>
    obtain ⟨k, b⟩ := y
    unfold Memory.put at h
    split at h
    · rcases List.mem_cons.1 h with rfl | h
      · exact .inl rfl
      · exact .inr h
    · split at h
      · rcases List.mem_cons.1 h with rfl | h
        · exact .inl rfl
        · exact .inr (List.mem_cons_of_mem _ h)
      · rcases List.mem_cons.1 h with rfl | h
        · exact .inr (List.mem_cons_self ..)
        · rcases ih h with h | h
          · exact .inl h
          · exact .inr (List.mem_cons_of_mem _ h)

/-- A write keeps the canonical form. -/
theorem Memory.put_wf {m : Memory} (h : m.wf) (a : Nat) (v : Byte) : (Memory.put m a v).wf := by
  induction m with
  | nil => simp [Memory.put, Memory.wf]
  | cons y m ih =>
    obtain ⟨k, b⟩ := y
    obtain ⟨hk, hm⟩ := List.pairwise_cons.1 h
    unfold Memory.put
    split
    · rename_i hlt
      refine List.pairwise_cons.2 ⟨fun z hz => ?_, h⟩
      rcases List.mem_cons.1 hz with rfl | hz
      · exact hlt
      · exact lt_trans hlt (hk z hz)
    · split
      · rename_i he
        refine List.pairwise_cons.2 ⟨fun z hz => ?_, hm⟩
        show a < z.1
        rw [he]; exact hk z hz
      · rename_i h1 h2
        refine List.pairwise_cons.2 ⟨fun z hz => ?_, ih hm⟩
        rcases Memory.mem_put hz with e | hz
        · show k < z.1
          omega
        · exact hk z hz

/-- A write inside a range keeps the addresses inside it. -/
theorem Memory.put_range {m : Memory} {n a : Nat} (h : ∀ x ∈ m, x.1 < n) (ha : a < n) (v : Byte) :
    ∀ x ∈ Memory.put m a v, x.1 < n := fun x hx => by
  rcases Memory.mem_put hx with e | hx
  · omega
  · exact h x hx

/-- A byte that reads stays readable. -/
theorem Memory.isSome_put {m : Memory} {x : Nat} (h : (m.get x).isSome = true) (a : Nat) (v : Byte) :
    ((Memory.put m a v).get x).isSome = true := by
  rw [Memory.get_put]; split <;> simp [h]

/-- What a byte string written at `a` leaves at each address. -/
theorem Memory.get_putAll (m : Memory) (a : Nat) (vs : List Byte) (x : Nat) :
    (Memory.putAll m a vs).get x =
      if a ≤ x ∧ x < a + vs.length then vs[x - a]? else m.get x := by
  induction vs generalizing m a with
  | nil =>
    have h : ¬ (a ≤ x ∧ x < a + ([] : List Byte).length) := by simp
    rw [if_neg h]; rfl
  | cons v vs ih =>
    simp only [Memory.putAll, ih, Memory.get_put, List.length_cons]
    by_cases h1 : x = a
    · subst h1; simp
    · by_cases h2 : a + 1 ≤ x ∧ x < a + 1 + vs.length
      · have h3 : a ≤ x ∧ x < a + (vs.length + 1) := by omega
        obtain ⟨k, hk⟩ : ∃ k, x - a = k + 1 := ⟨x - a - 1, by omega⟩
        have hk' : x - (a + 1) = k := by omega
        simp [h2, h3, hk, hk']
      · have h3 : ¬ (a ≤ x ∧ x < a + (vs.length + 1)) := by omega
        rw [if_neg h2, if_neg h1, if_neg h3]

/-- Writing a byte string keeps the canonical form. -/
theorem Memory.putAll_wf {m : Memory} (h : m.wf) (a : Nat) (vs : List Byte) : (Memory.putAll m a vs).wf := by
  induction vs generalizing m a with
  | nil => exact h
  | cons v vs ih => exact ih (Memory.put_wf h a v) (a + 1)

/-- Writing a byte string inside a range keeps the addresses inside it. -/
theorem Memory.putAll_range {m : Memory} {n a : Nat} (h : ∀ x ∈ m, x.1 < n) {vs : List Byte}
    (ha : a + vs.length ≤ n) : ∀ x ∈ Memory.putAll m a vs, x.1 < n := by
  induction vs generalizing m a with
  | nil => exact h
  | cons v vs ih =>
    simp only [List.length_cons] at ha
    exact ih (Memory.put_range h (by omega) v) (by omega)

end Sys2Proof.Machine
end

