-- ==== Sys2Proof/Laws/State.lean ====
section
/-! SUPPORT. One lemma per field per named update of State, each true by rfl, so that no later proof unfolds a
record update. -/

namespace Sys2Proof.Machine

@[simp] theorem emit_ring (bs : List Byte) (s : State) : (emit bs s).ring = s.ring := rfl
@[simp] theorem emit_wr (bs : List Byte) (s : State) : (emit bs s).wr = s.wr := rfl
@[simp] theorem emit_rd (bs : List Byte) (s : State) : (emit bs s).rd = s.rd := rfl
@[simp] theorem emit_crcAcc (bs : List Byte) (s : State) : (emit bs s).crcAcc = s.crcAcc := rfl
@[simp] theorem emit_crcPoly (bs : List Byte) (s : State) : (emit bs s).crcPoly = s.crcPoly := rfl
@[simp] theorem emit_crcInit (bs : List Byte) (s : State) : (emit bs s).crcInit = s.crcInit := rfl
@[simp] theorem emit_crcRefin (bs : List Byte) (s : State) : (emit bs s).crcRefin = s.crcRefin := rfl
@[simp] theorem emit_crcRefout (bs : List Byte) (s : State) : (emit bs s).crcRefout = s.crcRefout := rfl
@[simp] theorem emit_crcXorout (bs : List Byte) (s : State) : (emit bs s).crcXorout = s.crcXorout := rfl
@[simp] theorem emit_stage (bs : List Byte) (s : State) : (emit bs s).stage = s.stage := rfl
@[simp] theorem emit_cnt (bs : List Byte) (s : State) : (emit bs s).cnt = s.cnt := rfl
@[simp] theorem emit_exp (bs : List Byte) (s : State) : (emit bs s).exp = s.exp := rfl
@[simp] theorem emit_tmo (bs : List Byte) (s : State) : (emit bs s).tmo = s.tmo := rfl
@[simp] theorem emit_hdr0 (bs : List Byte) (s : State) : (emit bs s).hdr0 = s.hdr0 := rfl
@[simp] theorem emit_hdr1 (bs : List Byte) (s : State) : (emit bs s).hdr1 = s.hdr1 := rfl
@[simp] theorem emit_hdr2 (bs : List Byte) (s : State) : (emit bs s).hdr2 = s.hdr2 := rfl
@[simp] theorem emit_hdr3 (bs : List Byte) (s : State) : (emit bs s).hdr3 = s.hdr3 := rfl
@[simp] theorem emit_lenWire (bs : List Byte) (s : State) : (emit bs s).lenWire = s.lenWire := rfl
@[simp] theorem emit_lenEff (bs : List Byte) (s : State) : (emit bs s).lenEff = s.lenEff := rfl
@[simp] theorem emit_csumRx (bs : List Byte) (s : State) : (emit bs s).csumRx = s.csumRx := rfl
@[simp] theorem emit_rxbuf (bs : List Byte) (s : State) : (emit bs s).rxbuf = s.rxbuf := rfl
@[simp] theorem emit_rxLen (bs : List Byte) (s : State) : (emit bs s).rxLen = s.rxLen := rfl
@[simp] theorem emit_txbuf (bs : List Byte) (s : State) : (emit bs s).txbuf = s.txbuf := rfl
@[simp] theorem emit_txLen (bs : List Byte) (s : State) : (emit bs s).txLen = s.txLen := rfl
@[simp] theorem emit_ackOwed (bs : List Byte) (s : State) : (emit bs s).ackOwed = s.ackOwed := rfl
@[simp] theorem emit_abortOwed (bs : List Byte) (s : State) : (emit bs s).abortOwed = s.abortOwed := rfl
@[simp] theorem emit_b2b (bs : List Byte) (s : State) : (emit bs s).b2b = s.b2b := rfl
@[simp] theorem emit_result (bs : List Byte) (s : State) : (emit bs s).result = s.result := rfl
@[simp] theorem emit_retVal (bs : List Byte) (s : State) : (emit bs s).retVal = s.retVal := rfl
@[simp] theorem emit_flt (bs : List Byte) (s : State) : (emit bs s).flt = s.flt := rfl
@[simp] theorem emit_tx (bs : List Byte) (s : State) : (emit bs s).tx = s.tx ++ bs := rfl
@[simp] theorem emit_cfg (bs : List Byte) (s : State) : (emit bs s).cfg = s.cfg := rfl
@[simp] theorem emit_portRet (bs : List Byte) (s : State) : (emit bs s).portRet = s.portRet := rfl
@[simp] theorem emit_rdx (bs : List Byte) (s : State) : (emit bs s).rdx = s.rdx := rfl
@[simp] theorem emit_sched (bs : List Byte) (s : State) : (emit bs s).sched = s.sched := rfl

@[simp] theorem raise_ring (r : Result) (s : State) : (raise r s).ring = s.ring := rfl
@[simp] theorem raise_wr (r : Result) (s : State) : (raise r s).wr = s.wr := rfl
@[simp] theorem raise_rd (r : Result) (s : State) : (raise r s).rd = s.rd := rfl
@[simp] theorem raise_crcAcc (r : Result) (s : State) : (raise r s).crcAcc = s.crcAcc := rfl
@[simp] theorem raise_crcPoly (r : Result) (s : State) : (raise r s).crcPoly = s.crcPoly := rfl
@[simp] theorem raise_crcInit (r : Result) (s : State) : (raise r s).crcInit = s.crcInit := rfl
@[simp] theorem raise_crcRefin (r : Result) (s : State) : (raise r s).crcRefin = s.crcRefin := rfl
@[simp] theorem raise_crcRefout (r : Result) (s : State) : (raise r s).crcRefout = s.crcRefout := rfl
@[simp] theorem raise_crcXorout (r : Result) (s : State) : (raise r s).crcXorout = s.crcXorout := rfl
@[simp] theorem raise_stage (r : Result) (s : State) : (raise r s).stage = .idle := rfl
@[simp] theorem raise_cnt (r : Result) (s : State) : (raise r s).cnt = s.cnt := rfl
@[simp] theorem raise_exp (r : Result) (s : State) : (raise r s).exp = s.exp := rfl
@[simp] theorem raise_tmo (r : Result) (s : State) : (raise r s).tmo = s.tmo := rfl
@[simp] theorem raise_hdr0 (r : Result) (s : State) : (raise r s).hdr0 = s.hdr0 := rfl
@[simp] theorem raise_hdr1 (r : Result) (s : State) : (raise r s).hdr1 = s.hdr1 := rfl
@[simp] theorem raise_hdr2 (r : Result) (s : State) : (raise r s).hdr2 = s.hdr2 := rfl
@[simp] theorem raise_hdr3 (r : Result) (s : State) : (raise r s).hdr3 = s.hdr3 := rfl
@[simp] theorem raise_lenWire (r : Result) (s : State) : (raise r s).lenWire = s.lenWire := rfl
@[simp] theorem raise_lenEff (r : Result) (s : State) : (raise r s).lenEff = s.lenEff := rfl
@[simp] theorem raise_csumRx (r : Result) (s : State) : (raise r s).csumRx = s.csumRx := rfl
@[simp] theorem raise_rxbuf (r : Result) (s : State) : (raise r s).rxbuf = s.rxbuf := rfl
@[simp] theorem raise_rxLen (r : Result) (s : State) : (raise r s).rxLen = s.rxLen := rfl
@[simp] theorem raise_txbuf (r : Result) (s : State) : (raise r s).txbuf = s.txbuf := rfl
@[simp] theorem raise_txLen (r : Result) (s : State) : (raise r s).txLen = s.txLen := rfl
@[simp] theorem raise_ackOwed (r : Result) (s : State) : (raise r s).ackOwed = s.ackOwed := rfl
@[simp] theorem raise_abortOwed (r : Result) (s : State) : (raise r s).abortOwed = s.abortOwed := rfl
@[simp] theorem raise_b2b (r : Result) (s : State) : (raise r s).b2b = s.b2b := rfl
@[simp] theorem raise_result (r : Result) (s : State) : (raise r s).result = r := rfl
@[simp] theorem raise_retVal (r : Result) (s : State) : (raise r s).retVal = s.retVal := rfl
@[simp] theorem raise_flt (r : Result) (s : State) : (raise r s).flt = s.flt := rfl
@[simp] theorem raise_tx (r : Result) (s : State) : (raise r s).tx = s.tx := rfl
@[simp] theorem raise_cfg (r : Result) (s : State) : (raise r s).cfg = s.cfg := rfl
@[simp] theorem raise_portRet (r : Result) (s : State) : (raise r s).portRet = s.portRet := rfl
@[simp] theorem raise_rdx (r : Result) (s : State) : (raise r s).rdx = s.rdx := rfl
@[simp] theorem raise_sched (r : Result) (s : State) : (raise r s).sched = s.sched := rfl

@[simp] theorem raiseFault_ring (s : State) : (raiseFault s).ring = s.ring := rfl
@[simp] theorem raiseFault_wr (s : State) : (raiseFault s).wr = s.wr := rfl
@[simp] theorem raiseFault_rd (s : State) : (raiseFault s).rd = s.rd := rfl
@[simp] theorem raiseFault_crcAcc (s : State) : (raiseFault s).crcAcc = s.crcAcc := rfl
@[simp] theorem raiseFault_crcPoly (s : State) : (raiseFault s).crcPoly = s.crcPoly := rfl
@[simp] theorem raiseFault_crcInit (s : State) : (raiseFault s).crcInit = s.crcInit := rfl
@[simp] theorem raiseFault_crcRefin (s : State) : (raiseFault s).crcRefin = s.crcRefin := rfl
@[simp] theorem raiseFault_crcRefout (s : State) : (raiseFault s).crcRefout = s.crcRefout := rfl
@[simp] theorem raiseFault_crcXorout (s : State) : (raiseFault s).crcXorout = s.crcXorout := rfl
@[simp] theorem raiseFault_stage (s : State) : (raiseFault s).stage = s.stage := rfl
@[simp] theorem raiseFault_cnt (s : State) : (raiseFault s).cnt = s.cnt := rfl
@[simp] theorem raiseFault_exp (s : State) : (raiseFault s).exp = s.exp := rfl
@[simp] theorem raiseFault_tmo (s : State) : (raiseFault s).tmo = s.tmo := rfl
@[simp] theorem raiseFault_hdr0 (s : State) : (raiseFault s).hdr0 = s.hdr0 := rfl
@[simp] theorem raiseFault_hdr1 (s : State) : (raiseFault s).hdr1 = s.hdr1 := rfl
@[simp] theorem raiseFault_hdr2 (s : State) : (raiseFault s).hdr2 = s.hdr2 := rfl
@[simp] theorem raiseFault_hdr3 (s : State) : (raiseFault s).hdr3 = s.hdr3 := rfl
@[simp] theorem raiseFault_lenWire (s : State) : (raiseFault s).lenWire = s.lenWire := rfl
@[simp] theorem raiseFault_lenEff (s : State) : (raiseFault s).lenEff = s.lenEff := rfl
@[simp] theorem raiseFault_csumRx (s : State) : (raiseFault s).csumRx = s.csumRx := rfl
@[simp] theorem raiseFault_rxbuf (s : State) : (raiseFault s).rxbuf = s.rxbuf := rfl
@[simp] theorem raiseFault_rxLen (s : State) : (raiseFault s).rxLen = s.rxLen := rfl
@[simp] theorem raiseFault_txbuf (s : State) : (raiseFault s).txbuf = s.txbuf := rfl
@[simp] theorem raiseFault_txLen (s : State) : (raiseFault s).txLen = s.txLen := rfl
@[simp] theorem raiseFault_ackOwed (s : State) : (raiseFault s).ackOwed = s.ackOwed := rfl
@[simp] theorem raiseFault_abortOwed (s : State) : (raiseFault s).abortOwed = s.abortOwed := rfl
@[simp] theorem raiseFault_b2b (s : State) : (raiseFault s).b2b = s.b2b := rfl
@[simp] theorem raiseFault_result (s : State) : (raiseFault s).result = s.result := rfl
@[simp] theorem raiseFault_retVal (s : State) : (raiseFault s).retVal = s.retVal := rfl
@[simp] theorem raiseFault_flt (s : State) : (raiseFault s).flt = true := rfl
@[simp] theorem raiseFault_tx (s : State) : (raiseFault s).tx = s.tx := rfl
@[simp] theorem raiseFault_cfg (s : State) : (raiseFault s).cfg = s.cfg := rfl
@[simp] theorem raiseFault_portRet (s : State) : (raiseFault s).portRet = s.portRet := rfl
@[simp] theorem raiseFault_rdx (s : State) : (raiseFault s).rdx = s.rdx := rfl
@[simp] theorem raiseFault_sched (s : State) : (raiseFault s).sched = s.sched := rfl

@[simp] theorem enqueue_ring (s : State) (b : Byte) : (enqueue s b).ring = s.ring.put s.wr b := rfl
@[simp] theorem enqueue_wr (s : State) (b : Byte) : (enqueue s b).wr = cursorNext s.cfg s.wr := rfl
@[simp] theorem enqueue_rd (s : State) (b : Byte) : (enqueue s b).rd = s.rd := rfl
@[simp] theorem enqueue_crcAcc (s : State) (b : Byte) : (enqueue s b).crcAcc = s.crcAcc := rfl
@[simp] theorem enqueue_crcPoly (s : State) (b : Byte) : (enqueue s b).crcPoly = s.crcPoly := rfl
@[simp] theorem enqueue_crcInit (s : State) (b : Byte) : (enqueue s b).crcInit = s.crcInit := rfl
@[simp] theorem enqueue_crcRefin (s : State) (b : Byte) : (enqueue s b).crcRefin = s.crcRefin := rfl
@[simp] theorem enqueue_crcRefout (s : State) (b : Byte) : (enqueue s b).crcRefout = s.crcRefout := rfl
@[simp] theorem enqueue_crcXorout (s : State) (b : Byte) : (enqueue s b).crcXorout = s.crcXorout := rfl
@[simp] theorem enqueue_stage (s : State) (b : Byte) : (enqueue s b).stage = s.stage := rfl
@[simp] theorem enqueue_cnt (s : State) (b : Byte) : (enqueue s b).cnt = s.cnt := rfl
@[simp] theorem enqueue_exp (s : State) (b : Byte) : (enqueue s b).exp = s.exp := rfl
@[simp] theorem enqueue_tmo (s : State) (b : Byte) : (enqueue s b).tmo = s.tmo := rfl
@[simp] theorem enqueue_hdr0 (s : State) (b : Byte) : (enqueue s b).hdr0 = s.hdr0 := rfl
@[simp] theorem enqueue_hdr1 (s : State) (b : Byte) : (enqueue s b).hdr1 = s.hdr1 := rfl
@[simp] theorem enqueue_hdr2 (s : State) (b : Byte) : (enqueue s b).hdr2 = s.hdr2 := rfl
@[simp] theorem enqueue_hdr3 (s : State) (b : Byte) : (enqueue s b).hdr3 = s.hdr3 := rfl
@[simp] theorem enqueue_lenWire (s : State) (b : Byte) : (enqueue s b).lenWire = s.lenWire := rfl
@[simp] theorem enqueue_lenEff (s : State) (b : Byte) : (enqueue s b).lenEff = s.lenEff := rfl
@[simp] theorem enqueue_csumRx (s : State) (b : Byte) : (enqueue s b).csumRx = s.csumRx := rfl
@[simp] theorem enqueue_rxbuf (s : State) (b : Byte) : (enqueue s b).rxbuf = s.rxbuf := rfl
@[simp] theorem enqueue_rxLen (s : State) (b : Byte) : (enqueue s b).rxLen = s.rxLen := rfl
@[simp] theorem enqueue_txbuf (s : State) (b : Byte) : (enqueue s b).txbuf = s.txbuf := rfl
@[simp] theorem enqueue_txLen (s : State) (b : Byte) : (enqueue s b).txLen = s.txLen := rfl
@[simp] theorem enqueue_ackOwed (s : State) (b : Byte) : (enqueue s b).ackOwed = s.ackOwed := rfl
@[simp] theorem enqueue_abortOwed (s : State) (b : Byte) : (enqueue s b).abortOwed = s.abortOwed := rfl
@[simp] theorem enqueue_b2b (s : State) (b : Byte) : (enqueue s b).b2b = s.b2b := rfl
@[simp] theorem enqueue_result (s : State) (b : Byte) : (enqueue s b).result = s.result := rfl
@[simp] theorem enqueue_retVal (s : State) (b : Byte) : (enqueue s b).retVal = s.retVal := rfl
@[simp] theorem enqueue_flt (s : State) (b : Byte) : (enqueue s b).flt = s.flt := rfl
@[simp] theorem enqueue_tx (s : State) (b : Byte) : (enqueue s b).tx = s.tx := rfl
@[simp] theorem enqueue_cfg (s : State) (b : Byte) : (enqueue s b).cfg = s.cfg := rfl
@[simp] theorem enqueue_portRet (s : State) (b : Byte) : (enqueue s b).portRet = s.portRet := rfl
@[simp] theorem enqueue_rdx (s : State) (b : Byte) : (enqueue s b).rdx = s.rdx := rfl
@[simp] theorem enqueue_sched (s : State) (b : Byte) : (enqueue s b).sched = s.sched := rfl

@[simp] theorem advanceRd_ring (s : State) : (advanceRd s).ring = s.ring := rfl
@[simp] theorem advanceRd_wr (s : State) : (advanceRd s).wr = s.wr := rfl
@[simp] theorem advanceRd_rd (s : State) : (advanceRd s).rd = cursorNext s.cfg s.rd := rfl
@[simp] theorem advanceRd_crcAcc (s : State) : (advanceRd s).crcAcc = s.crcAcc := rfl
@[simp] theorem advanceRd_crcPoly (s : State) : (advanceRd s).crcPoly = s.crcPoly := rfl
@[simp] theorem advanceRd_crcInit (s : State) : (advanceRd s).crcInit = s.crcInit := rfl
@[simp] theorem advanceRd_crcRefin (s : State) : (advanceRd s).crcRefin = s.crcRefin := rfl
@[simp] theorem advanceRd_crcRefout (s : State) : (advanceRd s).crcRefout = s.crcRefout := rfl
@[simp] theorem advanceRd_crcXorout (s : State) : (advanceRd s).crcXorout = s.crcXorout := rfl
@[simp] theorem advanceRd_stage (s : State) : (advanceRd s).stage = s.stage := rfl
@[simp] theorem advanceRd_cnt (s : State) : (advanceRd s).cnt = s.cnt := rfl
@[simp] theorem advanceRd_exp (s : State) : (advanceRd s).exp = s.exp := rfl
@[simp] theorem advanceRd_tmo (s : State) : (advanceRd s).tmo = s.tmo := rfl
@[simp] theorem advanceRd_hdr0 (s : State) : (advanceRd s).hdr0 = s.hdr0 := rfl
@[simp] theorem advanceRd_hdr1 (s : State) : (advanceRd s).hdr1 = s.hdr1 := rfl
@[simp] theorem advanceRd_hdr2 (s : State) : (advanceRd s).hdr2 = s.hdr2 := rfl
@[simp] theorem advanceRd_hdr3 (s : State) : (advanceRd s).hdr3 = s.hdr3 := rfl
@[simp] theorem advanceRd_lenWire (s : State) : (advanceRd s).lenWire = s.lenWire := rfl
@[simp] theorem advanceRd_lenEff (s : State) : (advanceRd s).lenEff = s.lenEff := rfl
@[simp] theorem advanceRd_csumRx (s : State) : (advanceRd s).csumRx = s.csumRx := rfl
@[simp] theorem advanceRd_rxbuf (s : State) : (advanceRd s).rxbuf = s.rxbuf := rfl
@[simp] theorem advanceRd_rxLen (s : State) : (advanceRd s).rxLen = s.rxLen := rfl
@[simp] theorem advanceRd_txbuf (s : State) : (advanceRd s).txbuf = s.txbuf := rfl
@[simp] theorem advanceRd_txLen (s : State) : (advanceRd s).txLen = s.txLen := rfl
@[simp] theorem advanceRd_ackOwed (s : State) : (advanceRd s).ackOwed = s.ackOwed := rfl
@[simp] theorem advanceRd_abortOwed (s : State) : (advanceRd s).abortOwed = s.abortOwed := rfl
@[simp] theorem advanceRd_b2b (s : State) : (advanceRd s).b2b = s.b2b := rfl
@[simp] theorem advanceRd_result (s : State) : (advanceRd s).result = s.result := rfl
@[simp] theorem advanceRd_retVal (s : State) : (advanceRd s).retVal = s.retVal := rfl
@[simp] theorem advanceRd_flt (s : State) : (advanceRd s).flt = s.flt := rfl
@[simp] theorem advanceRd_tx (s : State) : (advanceRd s).tx = s.tx := rfl
@[simp] theorem advanceRd_cfg (s : State) : (advanceRd s).cfg = s.cfg := rfl
@[simp] theorem advanceRd_portRet (s : State) : (advanceRd s).portRet = s.portRet := rfl
@[simp] theorem advanceRd_rdx (s : State) : (advanceRd s).rdx = s.rdx := rfl
@[simp] theorem advanceRd_sched (s : State) : (advanceRd s).sched = s.sched := rfl

@[simp] theorem crcConfigure_ring (p i : U16) (ri ro : Bool) (x : U16) (s : State) : (crcConfigure p i ri ro x s).ring = s.ring := rfl
@[simp] theorem crcConfigure_wr (p i : U16) (ri ro : Bool) (x : U16) (s : State) : (crcConfigure p i ri ro x s).wr = s.wr := rfl
@[simp] theorem crcConfigure_rd (p i : U16) (ri ro : Bool) (x : U16) (s : State) : (crcConfigure p i ri ro x s).rd = s.rd := rfl
@[simp] theorem crcConfigure_crcAcc (p i : U16) (ri ro : Bool) (x : U16) (s : State) : (crcConfigure p i ri ro x s).crcAcc = i := rfl
@[simp] theorem crcConfigure_crcPoly (p i : U16) (ri ro : Bool) (x : U16) (s : State) : (crcConfigure p i ri ro x s).crcPoly = p := rfl
@[simp] theorem crcConfigure_crcInit (p i : U16) (ri ro : Bool) (x : U16) (s : State) : (crcConfigure p i ri ro x s).crcInit = i := rfl
@[simp] theorem crcConfigure_crcRefin (p i : U16) (ri ro : Bool) (x : U16) (s : State) : (crcConfigure p i ri ro x s).crcRefin = ri := rfl
@[simp] theorem crcConfigure_crcRefout (p i : U16) (ri ro : Bool) (x : U16) (s : State) : (crcConfigure p i ri ro x s).crcRefout = ro := rfl
@[simp] theorem crcConfigure_crcXorout (p i : U16) (ri ro : Bool) (x : U16) (s : State) : (crcConfigure p i ri ro x s).crcXorout = x := rfl
@[simp] theorem crcConfigure_stage (p i : U16) (ri ro : Bool) (x : U16) (s : State) : (crcConfigure p i ri ro x s).stage = s.stage := rfl
@[simp] theorem crcConfigure_cnt (p i : U16) (ri ro : Bool) (x : U16) (s : State) : (crcConfigure p i ri ro x s).cnt = s.cnt := rfl
@[simp] theorem crcConfigure_exp (p i : U16) (ri ro : Bool) (x : U16) (s : State) : (crcConfigure p i ri ro x s).exp = s.exp := rfl
@[simp] theorem crcConfigure_tmo (p i : U16) (ri ro : Bool) (x : U16) (s : State) : (crcConfigure p i ri ro x s).tmo = s.tmo := rfl
@[simp] theorem crcConfigure_hdr0 (p i : U16) (ri ro : Bool) (x : U16) (s : State) : (crcConfigure p i ri ro x s).hdr0 = s.hdr0 := rfl
@[simp] theorem crcConfigure_hdr1 (p i : U16) (ri ro : Bool) (x : U16) (s : State) : (crcConfigure p i ri ro x s).hdr1 = s.hdr1 := rfl
@[simp] theorem crcConfigure_hdr2 (p i : U16) (ri ro : Bool) (x : U16) (s : State) : (crcConfigure p i ri ro x s).hdr2 = s.hdr2 := rfl
@[simp] theorem crcConfigure_hdr3 (p i : U16) (ri ro : Bool) (x : U16) (s : State) : (crcConfigure p i ri ro x s).hdr3 = s.hdr3 := rfl
@[simp] theorem crcConfigure_lenWire (p i : U16) (ri ro : Bool) (x : U16) (s : State) : (crcConfigure p i ri ro x s).lenWire = s.lenWire := rfl
@[simp] theorem crcConfigure_lenEff (p i : U16) (ri ro : Bool) (x : U16) (s : State) : (crcConfigure p i ri ro x s).lenEff = s.lenEff := rfl
@[simp] theorem crcConfigure_csumRx (p i : U16) (ri ro : Bool) (x : U16) (s : State) : (crcConfigure p i ri ro x s).csumRx = s.csumRx := rfl
@[simp] theorem crcConfigure_rxbuf (p i : U16) (ri ro : Bool) (x : U16) (s : State) : (crcConfigure p i ri ro x s).rxbuf = s.rxbuf := rfl
@[simp] theorem crcConfigure_rxLen (p i : U16) (ri ro : Bool) (x : U16) (s : State) : (crcConfigure p i ri ro x s).rxLen = s.rxLen := rfl
@[simp] theorem crcConfigure_txbuf (p i : U16) (ri ro : Bool) (x : U16) (s : State) : (crcConfigure p i ri ro x s).txbuf = s.txbuf := rfl
@[simp] theorem crcConfigure_txLen (p i : U16) (ri ro : Bool) (x : U16) (s : State) : (crcConfigure p i ri ro x s).txLen = s.txLen := rfl
@[simp] theorem crcConfigure_ackOwed (p i : U16) (ri ro : Bool) (x : U16) (s : State) : (crcConfigure p i ri ro x s).ackOwed = s.ackOwed := rfl
@[simp] theorem crcConfigure_abortOwed (p i : U16) (ri ro : Bool) (x : U16) (s : State) : (crcConfigure p i ri ro x s).abortOwed = s.abortOwed := rfl
@[simp] theorem crcConfigure_b2b (p i : U16) (ri ro : Bool) (x : U16) (s : State) : (crcConfigure p i ri ro x s).b2b = s.b2b := rfl
@[simp] theorem crcConfigure_result (p i : U16) (ri ro : Bool) (x : U16) (s : State) : (crcConfigure p i ri ro x s).result = s.result := rfl
@[simp] theorem crcConfigure_retVal (p i : U16) (ri ro : Bool) (x : U16) (s : State) : (crcConfigure p i ri ro x s).retVal = s.retVal := rfl
@[simp] theorem crcConfigure_flt (p i : U16) (ri ro : Bool) (x : U16) (s : State) : (crcConfigure p i ri ro x s).flt = s.flt := rfl
@[simp] theorem crcConfigure_tx (p i : U16) (ri ro : Bool) (x : U16) (s : State) : (crcConfigure p i ri ro x s).tx = s.tx := rfl
@[simp] theorem crcConfigure_cfg (p i : U16) (ri ro : Bool) (x : U16) (s : State) : (crcConfigure p i ri ro x s).cfg = s.cfg := rfl
@[simp] theorem crcConfigure_portRet (p i : U16) (ri ro : Bool) (x : U16) (s : State) : (crcConfigure p i ri ro x s).portRet = s.portRet := rfl
@[simp] theorem crcConfigure_rdx (p i : U16) (ri ro : Bool) (x : U16) (s : State) : (crcConfigure p i ri ro x s).rdx = s.rdx := rfl
@[simp] theorem crcConfigure_sched (p i : U16) (ri ro : Bool) (x : U16) (s : State) : (crcConfigure p i ri ro x s).sched = s.sched := rfl

@[simp] theorem crcAccumulate_ring (bs : List Byte) (s : State) : (crcAccumulate bs s).ring = s.ring := rfl
@[simp] theorem crcAccumulate_wr (bs : List Byte) (s : State) : (crcAccumulate bs s).wr = s.wr := rfl
@[simp] theorem crcAccumulate_rd (bs : List Byte) (s : State) : (crcAccumulate bs s).rd = s.rd := rfl
@[simp] theorem crcAccumulate_crcAcc (bs : List Byte) (s : State) : (crcAccumulate bs s).crcAcc = bs.foldl (crcByte s.crcPoly s.crcRefin) s.crcAcc := rfl
@[simp] theorem crcAccumulate_crcPoly (bs : List Byte) (s : State) : (crcAccumulate bs s).crcPoly = s.crcPoly := rfl
@[simp] theorem crcAccumulate_crcInit (bs : List Byte) (s : State) : (crcAccumulate bs s).crcInit = s.crcInit := rfl
@[simp] theorem crcAccumulate_crcRefin (bs : List Byte) (s : State) : (crcAccumulate bs s).crcRefin = s.crcRefin := rfl
@[simp] theorem crcAccumulate_crcRefout (bs : List Byte) (s : State) : (crcAccumulate bs s).crcRefout = s.crcRefout := rfl
@[simp] theorem crcAccumulate_crcXorout (bs : List Byte) (s : State) : (crcAccumulate bs s).crcXorout = s.crcXorout := rfl
@[simp] theorem crcAccumulate_stage (bs : List Byte) (s : State) : (crcAccumulate bs s).stage = s.stage := rfl
@[simp] theorem crcAccumulate_cnt (bs : List Byte) (s : State) : (crcAccumulate bs s).cnt = s.cnt := rfl
@[simp] theorem crcAccumulate_exp (bs : List Byte) (s : State) : (crcAccumulate bs s).exp = s.exp := rfl
@[simp] theorem crcAccumulate_tmo (bs : List Byte) (s : State) : (crcAccumulate bs s).tmo = s.tmo := rfl
@[simp] theorem crcAccumulate_hdr0 (bs : List Byte) (s : State) : (crcAccumulate bs s).hdr0 = s.hdr0 := rfl
@[simp] theorem crcAccumulate_hdr1 (bs : List Byte) (s : State) : (crcAccumulate bs s).hdr1 = s.hdr1 := rfl
@[simp] theorem crcAccumulate_hdr2 (bs : List Byte) (s : State) : (crcAccumulate bs s).hdr2 = s.hdr2 := rfl
@[simp] theorem crcAccumulate_hdr3 (bs : List Byte) (s : State) : (crcAccumulate bs s).hdr3 = s.hdr3 := rfl
@[simp] theorem crcAccumulate_lenWire (bs : List Byte) (s : State) : (crcAccumulate bs s).lenWire = s.lenWire := rfl
@[simp] theorem crcAccumulate_lenEff (bs : List Byte) (s : State) : (crcAccumulate bs s).lenEff = s.lenEff := rfl
@[simp] theorem crcAccumulate_csumRx (bs : List Byte) (s : State) : (crcAccumulate bs s).csumRx = s.csumRx := rfl
@[simp] theorem crcAccumulate_rxbuf (bs : List Byte) (s : State) : (crcAccumulate bs s).rxbuf = s.rxbuf := rfl
@[simp] theorem crcAccumulate_rxLen (bs : List Byte) (s : State) : (crcAccumulate bs s).rxLen = s.rxLen := rfl
@[simp] theorem crcAccumulate_txbuf (bs : List Byte) (s : State) : (crcAccumulate bs s).txbuf = s.txbuf := rfl
@[simp] theorem crcAccumulate_txLen (bs : List Byte) (s : State) : (crcAccumulate bs s).txLen = s.txLen := rfl
@[simp] theorem crcAccumulate_ackOwed (bs : List Byte) (s : State) : (crcAccumulate bs s).ackOwed = s.ackOwed := rfl
@[simp] theorem crcAccumulate_abortOwed (bs : List Byte) (s : State) : (crcAccumulate bs s).abortOwed = s.abortOwed := rfl
@[simp] theorem crcAccumulate_b2b (bs : List Byte) (s : State) : (crcAccumulate bs s).b2b = s.b2b := rfl
@[simp] theorem crcAccumulate_result (bs : List Byte) (s : State) : (crcAccumulate bs s).result = s.result := rfl
@[simp] theorem crcAccumulate_retVal (bs : List Byte) (s : State) : (crcAccumulate bs s).retVal = s.retVal := rfl
@[simp] theorem crcAccumulate_flt (bs : List Byte) (s : State) : (crcAccumulate bs s).flt = s.flt := rfl
@[simp] theorem crcAccumulate_tx (bs : List Byte) (s : State) : (crcAccumulate bs s).tx = s.tx := rfl
@[simp] theorem crcAccumulate_cfg (bs : List Byte) (s : State) : (crcAccumulate bs s).cfg = s.cfg := rfl
@[simp] theorem crcAccumulate_portRet (bs : List Byte) (s : State) : (crcAccumulate bs s).portRet = s.portRet := rfl
@[simp] theorem crcAccumulate_rdx (bs : List Byte) (s : State) : (crcAccumulate bs s).rdx = s.rdx := rfl
@[simp] theorem crcAccumulate_sched (bs : List Byte) (s : State) : (crcAccumulate bs s).sched = s.sched := rfl

@[simp] theorem crcRun_ring (bs : List Byte) (s : State) : (crcRun bs s).ring = s.ring := rfl
@[simp] theorem crcRun_wr (bs : List Byte) (s : State) : (crcRun bs s).wr = s.wr := rfl
@[simp] theorem crcRun_rd (bs : List Byte) (s : State) : (crcRun bs s).rd = s.rd := rfl
@[simp] theorem crcRun_crcAcc (bs : List Byte) (s : State) : (crcRun bs s).crcAcc = crc16 bs := rfl
@[simp] theorem crcRun_crcPoly (bs : List Byte) (s : State) : (crcRun bs s).crcPoly = xmodemPoly := rfl
@[simp] theorem crcRun_crcInit (bs : List Byte) (s : State) : (crcRun bs s).crcInit = 0 := rfl
@[simp] theorem crcRun_crcRefin (bs : List Byte) (s : State) : (crcRun bs s).crcRefin = false := rfl
@[simp] theorem crcRun_crcRefout (bs : List Byte) (s : State) : (crcRun bs s).crcRefout = false := rfl
@[simp] theorem crcRun_crcXorout (bs : List Byte) (s : State) : (crcRun bs s).crcXorout = 0 := rfl
@[simp] theorem crcRun_stage (bs : List Byte) (s : State) : (crcRun bs s).stage = s.stage := rfl
@[simp] theorem crcRun_cnt (bs : List Byte) (s : State) : (crcRun bs s).cnt = s.cnt := rfl
@[simp] theorem crcRun_exp (bs : List Byte) (s : State) : (crcRun bs s).exp = s.exp := rfl
@[simp] theorem crcRun_tmo (bs : List Byte) (s : State) : (crcRun bs s).tmo = s.tmo := rfl
@[simp] theorem crcRun_hdr0 (bs : List Byte) (s : State) : (crcRun bs s).hdr0 = s.hdr0 := rfl
@[simp] theorem crcRun_hdr1 (bs : List Byte) (s : State) : (crcRun bs s).hdr1 = s.hdr1 := rfl
@[simp] theorem crcRun_hdr2 (bs : List Byte) (s : State) : (crcRun bs s).hdr2 = s.hdr2 := rfl
@[simp] theorem crcRun_hdr3 (bs : List Byte) (s : State) : (crcRun bs s).hdr3 = s.hdr3 := rfl
@[simp] theorem crcRun_lenWire (bs : List Byte) (s : State) : (crcRun bs s).lenWire = s.lenWire := rfl
@[simp] theorem crcRun_lenEff (bs : List Byte) (s : State) : (crcRun bs s).lenEff = s.lenEff := rfl
@[simp] theorem crcRun_csumRx (bs : List Byte) (s : State) : (crcRun bs s).csumRx = s.csumRx := rfl
@[simp] theorem crcRun_rxbuf (bs : List Byte) (s : State) : (crcRun bs s).rxbuf = s.rxbuf := rfl
@[simp] theorem crcRun_rxLen (bs : List Byte) (s : State) : (crcRun bs s).rxLen = s.rxLen := rfl
@[simp] theorem crcRun_txbuf (bs : List Byte) (s : State) : (crcRun bs s).txbuf = s.txbuf := rfl
@[simp] theorem crcRun_txLen (bs : List Byte) (s : State) : (crcRun bs s).txLen = s.txLen := rfl
@[simp] theorem crcRun_ackOwed (bs : List Byte) (s : State) : (crcRun bs s).ackOwed = s.ackOwed := rfl
@[simp] theorem crcRun_abortOwed (bs : List Byte) (s : State) : (crcRun bs s).abortOwed = s.abortOwed := rfl
@[simp] theorem crcRun_b2b (bs : List Byte) (s : State) : (crcRun bs s).b2b = s.b2b := rfl
@[simp] theorem crcRun_result (bs : List Byte) (s : State) : (crcRun bs s).result = s.result := rfl
@[simp] theorem crcRun_retVal (bs : List Byte) (s : State) : (crcRun bs s).retVal = s.retVal := rfl
@[simp] theorem crcRun_flt (bs : List Byte) (s : State) : (crcRun bs s).flt = s.flt := rfl
@[simp] theorem crcRun_tx (bs : List Byte) (s : State) : (crcRun bs s).tx = s.tx := rfl
@[simp] theorem crcRun_cfg (bs : List Byte) (s : State) : (crcRun bs s).cfg = s.cfg := rfl
@[simp] theorem crcRun_portRet (bs : List Byte) (s : State) : (crcRun bs s).portRet = s.portRet := rfl
@[simp] theorem crcRun_rdx (bs : List Byte) (s : State) : (crcRun bs s).rdx = s.rdx := rfl
@[simp] theorem crcRun_sched (bs : List Byte) (s : State) : (crcRun bs s).sched = s.sched := rfl

@[simp] theorem syncEmit_ring (t : SyncType) (s : State) : (syncEmit t s).ring = s.ring := rfl
@[simp] theorem syncEmit_wr (t : SyncType) (s : State) : (syncEmit t s).wr = s.wr := rfl
@[simp] theorem syncEmit_rd (t : SyncType) (s : State) : (syncEmit t s).rd = s.rd := rfl
@[simp] theorem syncEmit_crcAcc (t : SyncType) (s : State) : (syncEmit t s).crcAcc = s.crcAcc := rfl
@[simp] theorem syncEmit_crcPoly (t : SyncType) (s : State) : (syncEmit t s).crcPoly = s.crcPoly := rfl
@[simp] theorem syncEmit_crcInit (t : SyncType) (s : State) : (syncEmit t s).crcInit = s.crcInit := rfl
@[simp] theorem syncEmit_crcRefin (t : SyncType) (s : State) : (syncEmit t s).crcRefin = s.crcRefin := rfl
@[simp] theorem syncEmit_crcRefout (t : SyncType) (s : State) : (syncEmit t s).crcRefout = s.crcRefout := rfl
@[simp] theorem syncEmit_crcXorout (t : SyncType) (s : State) : (syncEmit t s).crcXorout = s.crcXorout := rfl
@[simp] theorem syncEmit_stage (t : SyncType) (s : State) : (syncEmit t s).stage = s.stage := rfl
@[simp] theorem syncEmit_cnt (t : SyncType) (s : State) : (syncEmit t s).cnt = s.cnt := rfl
@[simp] theorem syncEmit_exp (t : SyncType) (s : State) : (syncEmit t s).exp = s.exp := rfl
@[simp] theorem syncEmit_tmo (t : SyncType) (s : State) : (syncEmit t s).tmo = s.tmo := rfl
@[simp] theorem syncEmit_hdr0 (t : SyncType) (s : State) : (syncEmit t s).hdr0 = s.hdr0 := rfl
@[simp] theorem syncEmit_hdr1 (t : SyncType) (s : State) : (syncEmit t s).hdr1 = s.hdr1 := rfl
@[simp] theorem syncEmit_hdr2 (t : SyncType) (s : State) : (syncEmit t s).hdr2 = s.hdr2 := rfl
@[simp] theorem syncEmit_hdr3 (t : SyncType) (s : State) : (syncEmit t s).hdr3 = s.hdr3 := rfl
@[simp] theorem syncEmit_lenWire (t : SyncType) (s : State) : (syncEmit t s).lenWire = s.lenWire := rfl
@[simp] theorem syncEmit_lenEff (t : SyncType) (s : State) : (syncEmit t s).lenEff = s.lenEff := rfl
@[simp] theorem syncEmit_csumRx (t : SyncType) (s : State) : (syncEmit t s).csumRx = s.csumRx := rfl
@[simp] theorem syncEmit_rxbuf (t : SyncType) (s : State) : (syncEmit t s).rxbuf = s.rxbuf := rfl
@[simp] theorem syncEmit_rxLen (t : SyncType) (s : State) : (syncEmit t s).rxLen = s.rxLen := rfl
@[simp] theorem syncEmit_txbuf (t : SyncType) (s : State) : (syncEmit t s).txbuf = s.txbuf := rfl
@[simp] theorem syncEmit_txLen (t : SyncType) (s : State) : (syncEmit t s).txLen = s.txLen := rfl
@[simp] theorem syncEmit_ackOwed (t : SyncType) (s : State) : (syncEmit t s).ackOwed = s.ackOwed := rfl
@[simp] theorem syncEmit_abortOwed (t : SyncType) (s : State) : (syncEmit t s).abortOwed = s.abortOwed := rfl
@[simp] theorem syncEmit_b2b (t : SyncType) (s : State) : (syncEmit t s).b2b = s.b2b := rfl
@[simp] theorem syncEmit_result (t : SyncType) (s : State) : (syncEmit t s).result = s.result := rfl
@[simp] theorem syncEmit_retVal (t : SyncType) (s : State) : (syncEmit t s).retVal = s.retVal := rfl
@[simp] theorem syncEmit_flt (t : SyncType) (s : State) : (syncEmit t s).flt = s.flt := rfl
@[simp] theorem syncEmit_tx (t : SyncType) (s : State) : (syncEmit t s).tx = s.tx ++ syncFrame s.cfg t := rfl
@[simp] theorem syncEmit_cfg (t : SyncType) (s : State) : (syncEmit t s).cfg = s.cfg := rfl
@[simp] theorem syncEmit_portRet (t : SyncType) (s : State) : (syncEmit t s).portRet = s.portRet := rfl
@[simp] theorem syncEmit_rdx (t : SyncType) (s : State) : (syncEmit t s).rdx = s.rdx := rfl
@[simp] theorem syncEmit_sched (t : SyncType) (s : State) : (syncEmit t s).sched = s.sched := rfl

@[simp] theorem respEmit_ring (s : State) : (respEmit s).ring = s.ring := rfl
@[simp] theorem respEmit_wr (s : State) : (respEmit s).wr = s.wr := rfl
@[simp] theorem respEmit_rd (s : State) : (respEmit s).rd = s.rd := rfl
@[simp] theorem respEmit_crcAcc (s : State) : (respEmit s).crcAcc = s.crcAcc := rfl
@[simp] theorem respEmit_crcPoly (s : State) : (respEmit s).crcPoly = s.crcPoly := rfl
@[simp] theorem respEmit_crcInit (s : State) : (respEmit s).crcInit = s.crcInit := rfl
@[simp] theorem respEmit_crcRefin (s : State) : (respEmit s).crcRefin = s.crcRefin := rfl
@[simp] theorem respEmit_crcRefout (s : State) : (respEmit s).crcRefout = s.crcRefout := rfl
@[simp] theorem respEmit_crcXorout (s : State) : (respEmit s).crcXorout = s.crcXorout := rfl
@[simp] theorem respEmit_stage (s : State) : (respEmit s).stage = s.stage := rfl
@[simp] theorem respEmit_cnt (s : State) : (respEmit s).cnt = s.cnt := rfl
@[simp] theorem respEmit_exp (s : State) : (respEmit s).exp = s.exp := rfl
@[simp] theorem respEmit_tmo (s : State) : (respEmit s).tmo = s.tmo := rfl
@[simp] theorem respEmit_hdr0 (s : State) : (respEmit s).hdr0 = s.hdr0 := rfl
@[simp] theorem respEmit_hdr1 (s : State) : (respEmit s).hdr1 = s.hdr1 := rfl
@[simp] theorem respEmit_hdr2 (s : State) : (respEmit s).hdr2 = s.hdr2 := rfl
@[simp] theorem respEmit_hdr3 (s : State) : (respEmit s).hdr3 = s.hdr3 := rfl
@[simp] theorem respEmit_lenWire (s : State) : (respEmit s).lenWire = s.lenWire := rfl
@[simp] theorem respEmit_lenEff (s : State) : (respEmit s).lenEff = s.lenEff := rfl
@[simp] theorem respEmit_csumRx (s : State) : (respEmit s).csumRx = s.csumRx := rfl
@[simp] theorem respEmit_rxbuf (s : State) : (respEmit s).rxbuf = s.rxbuf := rfl
@[simp] theorem respEmit_rxLen (s : State) : (respEmit s).rxLen = s.rxLen := rfl
@[simp] theorem respEmit_txbuf (s : State) : (respEmit s).txbuf = s.txbuf := rfl
@[simp] theorem respEmit_txLen (s : State) : (respEmit s).txLen = s.txLen := rfl
@[simp] theorem respEmit_ackOwed (s : State) : (respEmit s).ackOwed = s.ackOwed := rfl
@[simp] theorem respEmit_abortOwed (s : State) : (respEmit s).abortOwed = s.abortOwed := rfl
@[simp] theorem respEmit_b2b (s : State) : (respEmit s).b2b = s.b2b := rfl
@[simp] theorem respEmit_result (s : State) : (respEmit s).result = s.result := rfl
@[simp] theorem respEmit_retVal (s : State) : (respEmit s).retVal = s.retVal := rfl
@[simp] theorem respEmit_flt (s : State) : (respEmit s).flt = s.flt := rfl
@[simp] theorem respEmit_tx (s : State) : (respEmit s).tx = s.tx ++ responseFrame s.cfg (ownRecord s.cfg) := rfl
@[simp] theorem respEmit_cfg (s : State) : (respEmit s).cfg = s.cfg := rfl
@[simp] theorem respEmit_portRet (s : State) : (respEmit s).portRet = s.portRet := rfl
@[simp] theorem respEmit_rdx (s : State) : (respEmit s).rdx = s.rdx := rfl
@[simp] theorem respEmit_sched (s : State) : (respEmit s).sched = s.sched := rfl

@[simp] theorem lengthComplete_ring (s : State) : (lengthComplete s).ring = s.ring := rfl
@[simp] theorem lengthComplete_wr (s : State) : (lengthComplete s).wr = s.wr := rfl
@[simp] theorem lengthComplete_rd (s : State) : (lengthComplete s).rd = s.rd := rfl
@[simp] theorem lengthComplete_crcAcc (s : State) : (lengthComplete s).crcAcc = s.crcAcc := rfl
@[simp] theorem lengthComplete_crcPoly (s : State) : (lengthComplete s).crcPoly = s.crcPoly := rfl
@[simp] theorem lengthComplete_crcInit (s : State) : (lengthComplete s).crcInit = s.crcInit := rfl
@[simp] theorem lengthComplete_crcRefin (s : State) : (lengthComplete s).crcRefin = s.crcRefin := rfl
@[simp] theorem lengthComplete_crcRefout (s : State) : (lengthComplete s).crcRefout = s.crcRefout := rfl
@[simp] theorem lengthComplete_crcXorout (s : State) : (lengthComplete s).crcXorout = s.crcXorout := rfl
@[simp] theorem lengthComplete_stage (s : State) : (lengthComplete s).stage = .rCsum := rfl
@[simp] theorem lengthComplete_cnt (s : State) : (lengthComplete s).cnt = 0 := rfl
@[simp] theorem lengthComplete_exp (s : State) : (lengthComplete s).exp = s.exp := rfl
@[simp] theorem lengthComplete_tmo (s : State) : (lengthComplete s).tmo = s.tmo := rfl
@[simp] theorem lengthComplete_hdr0 (s : State) : (lengthComplete s).hdr0 = s.hdr0 := rfl
@[simp] theorem lengthComplete_hdr1 (s : State) : (lengthComplete s).hdr1 = s.hdr1 := rfl
@[simp] theorem lengthComplete_hdr2 (s : State) : (lengthComplete s).hdr2 = loByte (checksumLen s.cfg s.lenWire) := rfl
@[simp] theorem lengthComplete_hdr3 (s : State) : (lengthComplete s).hdr3 = hiByte (checksumLen s.cfg s.lenWire) := rfl
@[simp] theorem lengthComplete_lenWire (s : State) : (lengthComplete s).lenWire = s.lenWire := rfl
@[simp] theorem lengthComplete_lenEff (s : State) : (lengthComplete s).lenEff = clampLen s.cfg s.lenWire := rfl
@[simp] theorem lengthComplete_csumRx (s : State) : (lengthComplete s).csumRx = s.csumRx := rfl
@[simp] theorem lengthComplete_rxbuf (s : State) : (lengthComplete s).rxbuf = s.rxbuf := rfl
@[simp] theorem lengthComplete_rxLen (s : State) : (lengthComplete s).rxLen = s.rxLen := rfl
@[simp] theorem lengthComplete_txbuf (s : State) : (lengthComplete s).txbuf = s.txbuf := rfl
@[simp] theorem lengthComplete_txLen (s : State) : (lengthComplete s).txLen = s.txLen := rfl
@[simp] theorem lengthComplete_ackOwed (s : State) : (lengthComplete s).ackOwed = s.ackOwed := rfl
@[simp] theorem lengthComplete_abortOwed (s : State) : (lengthComplete s).abortOwed = s.abortOwed := rfl
@[simp] theorem lengthComplete_b2b (s : State) : (lengthComplete s).b2b = s.b2b := rfl
@[simp] theorem lengthComplete_result (s : State) : (lengthComplete s).result = s.result := rfl
@[simp] theorem lengthComplete_retVal (s : State) : (lengthComplete s).retVal = s.retVal := rfl
@[simp] theorem lengthComplete_flt (s : State) : (lengthComplete s).flt = s.flt := rfl
@[simp] theorem lengthComplete_tx (s : State) : (lengthComplete s).tx = s.tx := rfl
@[simp] theorem lengthComplete_cfg (s : State) : (lengthComplete s).cfg = s.cfg := rfl
@[simp] theorem lengthComplete_portRet (s : State) : (lengthComplete s).portRet = s.portRet := rfl
@[simp] theorem lengthComplete_rdx (s : State) : (lengthComplete s).rdx = s.rdx := rfl
@[simp] theorem lengthComplete_sched (s : State) : (lengthComplete s).sched = s.sched := rfl

@[simp] theorem discharge_ring (s : State) : (discharge s).ring = s.ring := by unfold discharge; split <;> first | rfl | (split <;> rfl)
@[simp] theorem discharge_wr (s : State) : (discharge s).wr = s.wr := by unfold discharge; split <;> first | rfl | (split <;> rfl)
@[simp] theorem discharge_rd (s : State) : (discharge s).rd = s.rd := by unfold discharge; split <;> first | rfl | (split <;> rfl)
@[simp] theorem discharge_crcAcc (s : State) : (discharge s).crcAcc = s.crcAcc := by unfold discharge; split <;> first | rfl | (split <;> rfl)
@[simp] theorem discharge_crcPoly (s : State) : (discharge s).crcPoly = s.crcPoly := by unfold discharge; split <;> first | rfl | (split <;> rfl)
@[simp] theorem discharge_crcInit (s : State) : (discharge s).crcInit = s.crcInit := by unfold discharge; split <;> first | rfl | (split <;> rfl)
@[simp] theorem discharge_crcRefin (s : State) : (discharge s).crcRefin = s.crcRefin := by unfold discharge; split <;> first | rfl | (split <;> rfl)
@[simp] theorem discharge_crcRefout (s : State) : (discharge s).crcRefout = s.crcRefout := by unfold discharge; split <;> first | rfl | (split <;> rfl)
@[simp] theorem discharge_crcXorout (s : State) : (discharge s).crcXorout = s.crcXorout := by unfold discharge; split <;> first | rfl | (split <;> rfl)
@[simp] theorem discharge_stage (s : State) : (discharge s).stage = s.stage := by unfold discharge; split <;> first | rfl | (split <;> rfl)
@[simp] theorem discharge_cnt (s : State) : (discharge s).cnt = s.cnt := by unfold discharge; split <;> first | rfl | (split <;> rfl)
@[simp] theorem discharge_exp (s : State) : (discharge s).exp = s.exp := by unfold discharge; split <;> first | rfl | (split <;> rfl)
@[simp] theorem discharge_tmo (s : State) : (discharge s).tmo = s.tmo := by unfold discharge; split <;> first | rfl | (split <;> rfl)
@[simp] theorem discharge_hdr0 (s : State) : (discharge s).hdr0 = s.hdr0 := by unfold discharge; split <;> first | rfl | (split <;> rfl)
@[simp] theorem discharge_hdr1 (s : State) : (discharge s).hdr1 = s.hdr1 := by unfold discharge; split <;> first | rfl | (split <;> rfl)
@[simp] theorem discharge_hdr2 (s : State) : (discharge s).hdr2 = s.hdr2 := by unfold discharge; split <;> first | rfl | (split <;> rfl)
@[simp] theorem discharge_hdr3 (s : State) : (discharge s).hdr3 = s.hdr3 := by unfold discharge; split <;> first | rfl | (split <;> rfl)
@[simp] theorem discharge_lenWire (s : State) : (discharge s).lenWire = s.lenWire := by unfold discharge; split <;> first | rfl | (split <;> rfl)
@[simp] theorem discharge_lenEff (s : State) : (discharge s).lenEff = s.lenEff := by unfold discharge; split <;> first | rfl | (split <;> rfl)
@[simp] theorem discharge_csumRx (s : State) : (discharge s).csumRx = s.csumRx := by unfold discharge; split <;> first | rfl | (split <;> rfl)
@[simp] theorem discharge_rxbuf (s : State) : (discharge s).rxbuf = s.rxbuf := by unfold discharge; split <;> first | rfl | (split <;> rfl)
@[simp] theorem discharge_rxLen (s : State) : (discharge s).rxLen = s.rxLen := by unfold discharge; split <;> first | rfl | (split <;> rfl)
@[simp] theorem discharge_txbuf (s : State) : (discharge s).txbuf = s.txbuf := by unfold discharge; split <;> first | rfl | (split <;> rfl)
@[simp] theorem discharge_txLen (s : State) : (discharge s).txLen = s.txLen := by unfold discharge; split <;> first | rfl | (split <;> rfl)
@[simp] theorem discharge_result (s : State) : (discharge s).result = s.result := by unfold discharge; split <;> first | rfl | (split <;> rfl)
@[simp] theorem discharge_retVal (s : State) : (discharge s).retVal = s.retVal := by unfold discharge; split <;> first | rfl | (split <;> rfl)
@[simp] theorem discharge_flt (s : State) : (discharge s).flt = s.flt := by unfold discharge; split <;> first | rfl | (split <;> rfl)
@[simp] theorem discharge_cfg (s : State) : (discharge s).cfg = s.cfg := by unfold discharge; split <;> first | rfl | (split <;> rfl)
@[simp] theorem discharge_portRet (s : State) : (discharge s).portRet = s.portRet := by unfold discharge; split <;> first | rfl | (split <;> rfl)
@[simp] theorem discharge_rdx (s : State) : (discharge s).rdx = s.rdx := by unfold discharge; split <;> first | rfl | (split <;> rfl)
@[simp] theorem discharge_sched (s : State) : (discharge s).sched = s.sched := by unfold discharge; split <;> first | rfl | (split <;> rfl)

@[simp] theorem respond_ring (s : State) : (respond s).ring = s.ring := by unfold respond; split <;> rfl
@[simp] theorem respond_wr (s : State) : (respond s).wr = s.wr := by unfold respond; split <;> rfl
@[simp] theorem respond_rd (s : State) : (respond s).rd = s.rd := by unfold respond; split <;> rfl
@[simp] theorem respond_crcAcc (s : State) : (respond s).crcAcc = s.crcAcc := by unfold respond; split <;> rfl
@[simp] theorem respond_crcPoly (s : State) : (respond s).crcPoly = s.crcPoly := by unfold respond; split <;> rfl
@[simp] theorem respond_crcInit (s : State) : (respond s).crcInit = s.crcInit := by unfold respond; split <;> rfl
@[simp] theorem respond_crcRefin (s : State) : (respond s).crcRefin = s.crcRefin := by unfold respond; split <;> rfl
@[simp] theorem respond_crcRefout (s : State) : (respond s).crcRefout = s.crcRefout := by unfold respond; split <;> rfl
@[simp] theorem respond_crcXorout (s : State) : (respond s).crcXorout = s.crcXorout := by unfold respond; split <;> rfl
@[simp] theorem respond_stage (s : State) : (respond s).stage = s.stage := by unfold respond; split <;> rfl
@[simp] theorem respond_cnt (s : State) : (respond s).cnt = s.cnt := by unfold respond; split <;> rfl
@[simp] theorem respond_exp (s : State) : (respond s).exp = s.exp := by unfold respond; split <;> rfl
@[simp] theorem respond_tmo (s : State) : (respond s).tmo = s.tmo := by unfold respond; split <;> rfl
@[simp] theorem respond_hdr0 (s : State) : (respond s).hdr0 = s.hdr0 := by unfold respond; split <;> rfl
@[simp] theorem respond_hdr1 (s : State) : (respond s).hdr1 = s.hdr1 := by unfold respond; split <;> rfl
@[simp] theorem respond_hdr2 (s : State) : (respond s).hdr2 = s.hdr2 := by unfold respond; split <;> rfl
@[simp] theorem respond_hdr3 (s : State) : (respond s).hdr3 = s.hdr3 := by unfold respond; split <;> rfl
@[simp] theorem respond_lenWire (s : State) : (respond s).lenWire = s.lenWire := by unfold respond; split <;> rfl
@[simp] theorem respond_lenEff (s : State) : (respond s).lenEff = s.lenEff := by unfold respond; split <;> rfl
@[simp] theorem respond_csumRx (s : State) : (respond s).csumRx = s.csumRx := by unfold respond; split <;> rfl
@[simp] theorem respond_rxbuf (s : State) : (respond s).rxbuf = s.rxbuf := by unfold respond; split <;> rfl
@[simp] theorem respond_rxLen (s : State) : (respond s).rxLen = s.rxLen := by unfold respond; split <;> rfl
@[simp] theorem respond_txbuf (s : State) : (respond s).txbuf = s.txbuf := by unfold respond; split <;> rfl
@[simp] theorem respond_txLen (s : State) : (respond s).txLen = s.txLen := by unfold respond; split <;> rfl
@[simp] theorem respond_ackOwed (s : State) : (respond s).ackOwed = s.ackOwed := by unfold respond; split <;> rfl
@[simp] theorem respond_abortOwed (s : State) : (respond s).abortOwed = s.abortOwed := by unfold respond; split <;> rfl
@[simp] theorem respond_b2b (s : State) : (respond s).b2b = s.b2b := by unfold respond; split <;> rfl
@[simp] theorem respond_result (s : State) : (respond s).result = s.result := by unfold respond; split <;> rfl
@[simp] theorem respond_retVal (s : State) : (respond s).retVal = s.retVal := by unfold respond; split <;> rfl
@[simp] theorem respond_flt (s : State) : (respond s).flt = s.flt := by unfold respond; split <;> rfl
@[simp] theorem respond_cfg (s : State) : (respond s).cfg = s.cfg := by unfold respond; split <;> rfl
@[simp] theorem respond_portRet (s : State) : (respond s).portRet = s.portRet := by unfold respond; split <;> rfl
@[simp] theorem respond_rdx (s : State) : (respond s).rdx = s.rdx := by unfold respond; split <;> rfl
@[simp] theorem respond_sched (s : State) : (respond s).sched = s.sched := by unfold respond; split <;> rfl

@[simp] theorem checksumComplete_ring (s : State) : (checksumComplete s).ring = s.ring := by unfold checksumComplete; split <;> rfl
@[simp] theorem checksumComplete_wr (s : State) : (checksumComplete s).wr = s.wr := by unfold checksumComplete; split <;> rfl
@[simp] theorem checksumComplete_rd (s : State) : (checksumComplete s).rd = s.rd := by unfold checksumComplete; split <;> rfl
@[simp] theorem checksumComplete_crcAcc (s : State) : (checksumComplete s).crcAcc = s.crcAcc := by unfold checksumComplete; split <;> rfl
@[simp] theorem checksumComplete_crcPoly (s : State) : (checksumComplete s).crcPoly = s.crcPoly := by unfold checksumComplete; split <;> rfl
@[simp] theorem checksumComplete_crcInit (s : State) : (checksumComplete s).crcInit = s.crcInit := by unfold checksumComplete; split <;> rfl
@[simp] theorem checksumComplete_crcRefin (s : State) : (checksumComplete s).crcRefin = s.crcRefin := by unfold checksumComplete; split <;> rfl
@[simp] theorem checksumComplete_crcRefout (s : State) : (checksumComplete s).crcRefout = s.crcRefout := by unfold checksumComplete; split <;> rfl
@[simp] theorem checksumComplete_crcXorout (s : State) : (checksumComplete s).crcXorout = s.crcXorout := by unfold checksumComplete; split <;> rfl
@[simp] theorem checksumComplete_exp (s : State) : (checksumComplete s).exp = s.exp := by unfold checksumComplete; split <;> rfl
@[simp] theorem checksumComplete_tmo (s : State) : (checksumComplete s).tmo = s.tmo := by unfold checksumComplete; split <;> rfl
@[simp] theorem checksumComplete_hdr0 (s : State) : (checksumComplete s).hdr0 = s.hdr0 := by unfold checksumComplete; split <;> rfl
@[simp] theorem checksumComplete_hdr1 (s : State) : (checksumComplete s).hdr1 = s.hdr1 := by unfold checksumComplete; split <;> rfl
@[simp] theorem checksumComplete_hdr2 (s : State) : (checksumComplete s).hdr2 = s.hdr2 := by unfold checksumComplete; split <;> rfl
@[simp] theorem checksumComplete_hdr3 (s : State) : (checksumComplete s).hdr3 = s.hdr3 := by unfold checksumComplete; split <;> rfl
@[simp] theorem checksumComplete_lenWire (s : State) : (checksumComplete s).lenWire = s.lenWire := by unfold checksumComplete; split <;> rfl
@[simp] theorem checksumComplete_lenEff (s : State) : (checksumComplete s).lenEff = s.lenEff := by unfold checksumComplete; split <;> rfl
@[simp] theorem checksumComplete_csumRx (s : State) : (checksumComplete s).csumRx = s.csumRx := by unfold checksumComplete; split <;> rfl
@[simp] theorem checksumComplete_rxLen (s : State) : (checksumComplete s).rxLen = s.rxLen := by unfold checksumComplete; split <;> rfl
@[simp] theorem checksumComplete_txbuf (s : State) : (checksumComplete s).txbuf = s.txbuf := by unfold checksumComplete; split <;> rfl
@[simp] theorem checksumComplete_txLen (s : State) : (checksumComplete s).txLen = s.txLen := by unfold checksumComplete; split <;> rfl
@[simp] theorem checksumComplete_ackOwed (s : State) : (checksumComplete s).ackOwed = s.ackOwed := by unfold checksumComplete; split <;> rfl
@[simp] theorem checksumComplete_abortOwed (s : State) : (checksumComplete s).abortOwed = s.abortOwed := by unfold checksumComplete; split <;> rfl
@[simp] theorem checksumComplete_b2b (s : State) : (checksumComplete s).b2b = s.b2b := by unfold checksumComplete; split <;> rfl
@[simp] theorem checksumComplete_result (s : State) : (checksumComplete s).result = s.result := by unfold checksumComplete; split <;> rfl
@[simp] theorem checksumComplete_retVal (s : State) : (checksumComplete s).retVal = s.retVal := by unfold checksumComplete; split <;> rfl
@[simp] theorem checksumComplete_flt (s : State) : (checksumComplete s).flt = s.flt := by unfold checksumComplete; split <;> rfl
@[simp] theorem checksumComplete_tx (s : State) : (checksumComplete s).tx = s.tx := by unfold checksumComplete; split <;> rfl
@[simp] theorem checksumComplete_cfg (s : State) : (checksumComplete s).cfg = s.cfg := by unfold checksumComplete; split <;> rfl
@[simp] theorem checksumComplete_portRet (s : State) : (checksumComplete s).portRet = s.portRet := by unfold checksumComplete; split <;> rfl
@[simp] theorem checksumComplete_rdx (s : State) : (checksumComplete s).rdx = s.rdx := by unfold checksumComplete; split <;> rfl
@[simp] theorem checksumComplete_sched (s : State) : (checksumComplete s).sched = s.sched := by unfold checksumComplete; split <;> rfl

end Sys2Proof.Machine
end

