-- ==== Sys2Proof/Laws/Ops.lean ====
section
/-! SUPPORT. One lemma for each shared operation that says once what it can do: cursor arithmetic, array reads,
the producer port, `DEQ`, the guarded stage step, the client port. -/

namespace Sys2Proof

/-- R7 clause 1 in words: a well-formed capacity is a power of two, at least 2. -/
theorem Config.capOk_iff (c : Config) : c.capOk = true ↔ ∃ k, 1 ≤ k ∧ c.cap = 2 ^ k := by
  unfold Config.capOk
  simp only [Bool.and_eq_true, decide_eq_true_eq]
  constructor
  · rintro ⟨h2, h⟩
    refine ⟨Nat.log2 c.cap, ?_, h⟩
    by_contra hk
    have : Nat.log2 c.cap = 0 := by omega
    rw [this] at h; omega
  · rintro ⟨k, hk, h⟩
    refine ⟨?_, ?_⟩
    · rw [h]; exact Nat.le_self_pow (by omega) 2
    · rw [h, Nat.log2_two_pow]

/-- The clauses of R7, one by one. -/
theorem Config.wf_iff (c : Config) : c.wf = true ↔
    (∃ k, 1 ≤ k ∧ c.cap = 2 ^ k) ∧ c.rxCap ≤ 65535 ∧ c.txCap ≤ 65535 ∧ c.types.Nodup ∧ c.rsvd = 0 := by
  simp only [Config.wf, Config.typesOk, Bool.and_eq_true, decide_eq_true_eq, Config.capOk_iff, and_assoc]

theorem Config.wf_cap {c : Config} (h : c.wf = true) : ∃ k, 1 ≤ k ∧ c.cap = 2 ^ k := (c.wf_iff.1 h).1

theorem Config.wf_cap_ge {c : Config} (h : c.wf = true) : 2 ≤ c.cap := by
  obtain ⟨k, hk, e⟩ := Config.wf_cap h
  rw [e]; exact Nat.le_self_pow (by omega) 2

theorem Config.wf_rxCap {c : Config} (h : c.wf = true) : c.rxCap ≤ 65535 := (c.wf_iff.1 h).2.1

theorem Config.wf_txCap {c : Config} (h : c.wf = true) : c.txCap ≤ 65535 := (c.wf_iff.1 h).2.2.1

/-- The mask is the remainder (R62). -/
theorem Config.and_mask {c : Config} (h : c.wf = true) (x : Nat) : x &&& c.mask = x % c.cap := by
  obtain ⟨k, _, e⟩ := Config.wf_cap h
  rw [Config.mask, e, Nat.and_two_pow_sub_one_eq_mod]

end Sys2Proof

namespace Sys2Proof.Machine

/-- R62: cursor increment is `(c + 1) mod CAP`. -/
theorem cursorNext_eq {c : Config} (h : c.wf = true) (x : Nat) : cursorNext c x = (x + 1) % c.cap :=
  Config.and_mask h _

theorem cursorNext_lt {c : Config} (h : c.wf = true) (x : Nat) : cursorNext c x < c.cap := by
  rw [cursorNext_eq h]; exact Nat.mod_lt _ (by have := Config.wf_cap_ge h; omega)

/-- R62: cursor difference is `w - r`, plus `CAP` where that would be negative. -/
theorem cursorDiff_eq {c : Config} (h : c.wf = true) {w r : Nat} (hw : w < c.cap) (hr : r < c.cap) :
    cursorDiff c w r = if r ≤ w then w - r else w + c.cap - r := by
  rw [cursorDiff, Config.and_mask h]
  split
  · have : w + c.cap - r = (w - r) + c.cap := by omega
    rw [this, Nat.add_mod_right, Nat.mod_eq_of_lt (by omega)]
  · exact Nat.mod_eq_of_lt (by omega)

/-- An array read answers the byte that stands at an address inside the array. -/
theorem readByte_ok {sp : Space} {m : Memory} {size a : Nat} {b : Byte} :
    readByte sp m size a = .ok b ↔ a < size ∧ m.get a = some b := by
  unfold readByte
  split
  · rename_i h
    cases hg : Memory.get m a <;> simp [h]
  · rename_i h
    simp [h]

/-- Consecutive array reads answer the bytes that stand there. -/
theorem readBytes_ok {sp : Space} {m : Memory} {size a n : Nat} {bs : List Byte} :
    readBytes sp m size a n = .ok bs ↔
      bs.length = n ∧ ∀ i (h : i < bs.length), a + i < size ∧ m.get (a + i) = some bs[i] := by
  induction n generalizing a bs with
  | zero =>
    constructor
    · intro h; cases h; simp
    · rintro ⟨h, -⟩; rw [List.length_eq_zero_iff.1 h]; rfl
  | succ n ih =>
    unfold readBytes
    cases hb : readByte sp m size a with
    | error f =>
      simp only [reduceCtorEq, false_iff]
      rintro ⟨hl, hi⟩
      have h0 := hi 0 (by omega)
      rw [Nat.add_zero] at h0
      rw [readByte_ok.2 h0] at hb; cases hb
    | ok b =>
      have hb' := readByte_ok.1 hb
      cases hr : readBytes sp m size (a + 1) n with
      | error f =>
        simp only [reduceCtorEq, false_iff]
        rintro ⟨hl, hi⟩
        match bs, hl with
        | x :: xs, hl =>
          have : readBytes sp m size (a + 1) n = .ok xs := ih.2 ⟨by simpa using hl, fun i h => by
            have := hi (i + 1) (by simpa using h)
            simpa [Nat.add_assoc, Nat.add_comm 1 i] using this⟩
          rw [this] at hr; cases hr
      | ok ys =>
        have hy := ih.1 hr
        simp only [Except.ok.injEq]
        constructor
        · rintro rfl
          refine ⟨by simp [hy.1], fun i h => ?_⟩
          cases i with
          | zero => simpa using hb'
          | succ i =>
            have := hy.2 i (by simpa using h)
            simpa [Nat.add_assoc, Nat.add_comm 1 i] using this
        · rintro ⟨hl, hi⟩
          match bs, hl with
          | x :: xs, hl =>
            have h0 := hi 0 (by simp)
            have hx : b = x := by
              have := hb'.2; simp only [Nat.add_zero] at h0; rw [h0.2] at this
              simpa using this.symm
            have : readBytes sp m size (a + 1) n = .ok xs := ih.2 ⟨by simpa using hl, fun i h => by
              have := hi (i + 1) (by simpa using h)
              simpa [Nat.add_assoc, Nat.add_comm 1 i] using this⟩
            rw [this] at hr
            rw [hx]; cases hr; rfl

/-- `ENQ`s touch nothing but `RING[]` and `wr` (R72 item 4). -/
theorem foldl_enqueue_frame (bs : List Byte) (s : State) :
    bs.foldl enqueue s = { s with ring := (bs.foldl enqueue s).ring, wr := (bs.foldl enqueue s).wr } := by
  induction bs generalizing s with
  | nil => rfl
  | cons b bs ih => rw [List.foldl_cons, ih (enqueue s b)]; rfl

/-- What the producer port can do. -/
theorem deliver_next {bs : List Byte} {s t : State} :
    deliver bs s = .next t ↔ s.wr < s.cfg.cap ∧ t = bs.foldl enqueue s := by
  unfold deliver; split <;> simp [*, eq_comm]

/-- `DEQ` on a ring whose next byte stands: `k` goes on with it. -/
theorem dequeue_of_byte {s : State} {hold : Out} {k : Byte → State → Out} {b : Byte}
    (hne : s.rd ≠ s.wr) (hlt : s.rd < s.cfg.cap) (hb : s.ring.get s.rd = some b) :
    dequeue s hold k = k b (advanceRd s) := by
  unfold dequeue; rw [if_neg hne, readByte_ok.2 ⟨hlt, hb⟩]

/-- `DEQ` on an empty ring holds. -/
theorem dequeue_of_empty {s : State} {hold : Out} {k : Byte → State → Out} (h : s.rd = s.wr) :
    dequeue s hold k = hold := if_pos h

/-- What `DEQ` can do: hold, or go on with the byte at `rd`. -/
theorem dequeue_next {s t : State} {hold : Out} {k : Byte → State → Out} (h : dequeue s hold k = .next t) :
    (s.rd = s.wr ∧ hold = .next t) ∨
      ∃ b, s.rd ≠ s.wr ∧ s.rd < s.cfg.cap ∧ s.ring.get s.rd = some b ∧ k b (advanceRd s) = .next t := by
  by_cases he : s.rd = s.wr
  · rw [dequeue_of_empty he] at h; exact .inl ⟨he, h⟩
  · unfold dequeue at h
    rw [if_neg he] at h
    cases hb : readByte .ring s.ring s.cfg.cap s.rd with
    | error f => rw [hb] at h; cases h
    | ok b =>
      rw [hb] at h
      exact .inr ⟨b, he, (readByte_ok.1 hb).1, (readByte_ok.1 hb).2, h⟩

/-- A guarded sequencer step goes on only in its stage and without a fault. -/
theorem atStage_next {st : Stage} {s t : State} {k : Out} :
    atStage st s k = .next t ↔ s.stage = st ∧ s.flt = false ∧ k = .next t := by
  unfold atStage; split <;> simp_all

/-- What a reading stage step can do. -/
theorem stageByte_next {st : Stage} {s t : State} {k : Byte → State → Out} (h : stageByte st s k = .next t) :
    s.stage = st ∧ s.flt = false ∧
      ((s.rd = s.wr ∧ t = s) ∨
        ∃ b, s.rd ≠ s.wr ∧ s.rd < s.cfg.cap ∧ s.ring.get s.rd = some b ∧ k b (advanceRd s) = .next t) := by
  obtain ⟨h1, h2, h3⟩ := atStage_next.1 h
  refine ⟨h1, h2, ?_⟩
  rcases dequeue_next h3 with ⟨he, h⟩ | h
  · cases h; exact .inl ⟨he, rfl⟩
  · exact .inr h

/-- A reading stage step with its byte there. -/
theorem stageByte_of_byte {st : Stage} {s : State} {k : Byte → State → Out} {b : Byte} (h1 : s.stage = st)
    (h2 : s.flt = false) (hne : s.rd ≠ s.wr) (hlt : s.rd < s.cfg.cap) (hb : s.ring.get s.rd = some b) :
    stageByte st s k = k b (advanceRd s) := by
  unfold stageByte atStage; rw [if_pos ⟨h1, h2⟩, dequeue_of_byte hne hlt hb]

/-- The consumer port goes on only between calls and without a fault (R38, R43). -/
theorem readerPort_next {s t : State} {k : Out} :
    readerPort s k = .next t ↔ s.flt = false ∧ s.stage = .idle ∧ k = .next t := by
  unfold readerPort
  split
  · simp_all
  · split <;> simp_all

/-- The consumer port between calls and without a fault. -/
theorem readerPort_of_free {s : State} {k : Out} (h1 : s.stage = .idle) (h2 : s.flt = false) : readerPort s k = k := by
  unfold readerPort; rw [if_neg (by simp [h2]), if_pos h1]

/-- The client port's guard (R42). -/
theorem clientMayCall_iff {s : State} :
    clientMayCall s = true ↔ s.stage = .idle ∧ s.flt = false ∧ s.rdx = none := by
  unfold clientMayCall
  cases s.flt <;> cases s.rdx <;> simp

/-- A client call goes on only when accepted. -/
theorem clientCall_next {s t : State} {k : Out} :
    clientCall s k = .next t ↔ (s.stage = .idle ∧ s.flt = false ∧ s.rdx = none) ∧ k = .next t := by
  rw [← clientMayCall_iff]; unfold clientCall; split <;> simp_all

end Sys2Proof.Machine
end

