-- ==== Sys2Proof/Laws/PerInstr.lean ====
section
/-! SUPPORT. The law family WireLayout (spec/30_encoding.md R81): whatever the encoder writes begins with the
start marker and one of the seven type codes. One lemma per constructor of `Instr`. -/

namespace Sys2Proof.Laws.WireLayout

/-- R81 for one instruction: the encoding, where there is one, begins with `SOF` and a packet type. -/
def Statement (i : Instr) : Prop :=
  ∀ (c : Config) (bs : List Byte), encode c i = some bs → ∃ t rest, bs = c.sof :: t :: rest ∧ t ∈ c.types

theorem of_none {i : Instr} (h : ∀ c, encode c i = none) : Statement i := fun c bs e => by
  rw [h c] at e; cases e

theorem enq (b : Byte) : Statement (.enq b) := of_none fun _ => rfl
theorem empty : Statement .empty := of_none fun _ => rfl
theorem avail : Statement .avail := of_none fun _ => rfl
theorem deq : Statement .deq := of_none fun _ => rfl
theorem rdx (n : Nat) (t : TmoSel) : Statement (.rdx n t) := of_none fun _ => rfl
theorem crcCfg (p i : U16) (ri ro : Bool) (x : U16) : Statement (.crcCfg p i ri ro x) := of_none fun _ => rfl
theorem crcAcc (bs : List Byte) : Statement (.crcAcc bs) := of_none fun _ => rfl
theorem crcFin : Statement .crcFin := of_none fun _ => rfl
theorem read (e : FrameClass) (t : TmoSel) (d : Dst) : Statement (.read e t d) := of_none fun _ => rfl
theorem write (e : FrameClass) (p : List Byte) (t : TmoSel) : Statement (.write e p t) := of_none fun _ => rfl
theorem finalize : Statement .finalize := of_none fun _ => rfl
theorem abort : Statement .abort := of_none fun _ => rfl
theorem maxpay : Statement .maxpay := of_none fun _ => rfl
theorem rSeek : Statement .rSeek := of_none fun _ => rfl
theorem rType : Statement .rType := of_none fun _ => rfl
theorem rLen : Statement .rLen := of_none fun _ => rfl
theorem rCsum : Statement .rCsum := of_none fun _ => rfl
theorem rPay : Statement .rPay := of_none fun _ => rfl
theorem rVerify : Statement .rVerify := of_none fun _ => rfl
theorem wSeek : Statement .wSeek := of_none fun _ => rfl
theorem wType : Statement .wType := of_none fun _ => rfl
theorem timeout : Statement .timeout := of_none fun _ => rfl
theorem discharge : Statement .discharge := of_none fun _ => rfl
theorem respond : Statement .respond := of_none fun _ => rfl
theorem syncEmit (t : SyncType) : Statement (.syncEmit t) := of_none fun _ => rfl
theorem buildData (e : FrameClass) (p : List Byte) : Statement (.buildData e p) := of_none fun _ => rfl
theorem sendTxbuf : Statement .sendTxbuf := of_none fun _ => rfl
theorem respEmit : Statement .respEmit := of_none fun _ => rfl
theorem ack : Statement .ack := fun c bs h => by
  cases h; exact ⟨_, _, rfl, by simp [Config.types, syncCode, classCode]⟩
theorem nak : Statement .nak := fun c bs h => by
  cases h; exact ⟨_, _, rfl, by simp [Config.types, syncCode, classCode]⟩
theorem ackAbort : Statement .ackAbort := fun c bs h => by
  cases h; exact ⟨_, _, rfl, by simp [Config.types, syncCode, classCode]⟩
theorem command (k : U16) (p : List Byte) : Statement (.command k p) := fun c bs h => by
  cases h; exact ⟨_, _, rfl, by simp [Config.types, syncCode, classCode]⟩
theorem data (k : U16) (p : List Byte) : Statement (.data k p) := fun c bs h => by
  cases h; exact ⟨_, _, rfl, by simp [Config.types, syncCode, classCode]⟩
theorem ping : Statement .ping := fun c bs h => by
  cases h; exact ⟨_, _, rfl, by simp [Config.types, syncCode, classCode]⟩
theorem pingResponse (r : HandshakeRecord) : Statement (.pingResponse r) := fun c bs h => by
  cases h; exact ⟨_, _, rfl, by simp [Config.types, syncCode, classCode]⟩

end Sys2Proof.Laws.WireLayout
end

