-- ==== Sys2Proof/Laws/Ring.lean ====
section
/-! SUPPORT. The cursors under `ENQ` and `DEQ` (spec/20_memory.md R62, spec/40_ring_buffer.md R112): occupancy and
slots without the mask, and what one move of a cursor does to them. -/

namespace Sys2Proof.Machine

theorem ringAvail_eq {s : State} (h : CursorsOk s) :
    ringAvail s = if s.rd ≤ s.wr then s.wr - s.rd else s.wr + s.cfg.cap - s.rd :=
  cursorDiff_eq h.1 h.2.1 h.2.2

theorem ringAvail_lt {s : State} (h : CursorsOk s) : ringAvail s < s.cfg.cap := by
  rw [ringAvail_eq h]
  have := h.2
  split <;> omega

/-- `EMPTY` and `AVAIL = 0` are the same (R112). -/
theorem ringAvail_eq_zero {s : State} (h : CursorsOk s) : ringAvail s = 0 ↔ s.rd = s.wr := by
  rw [ringAvail_eq h]
  have := h.2
  split <;> omega

theorem ringSlot_eq {s : State} (h : CursorsOk s) {i : Nat} (hi : i < s.cfg.cap) :
    ringSlot s i = if s.rd + i < s.cfg.cap then s.rd + i else s.rd + i - s.cfg.cap := by
  unfold ringSlot
  split
  · exact Nat.mod_eq_of_lt ‹_›
  · rw [Nat.mod_eq_sub_mod (by omega), Nat.mod_eq_of_lt (by have := h.2; omega)]

/-- The slot behind the last byte is the one `wr` names. -/
theorem ringSlot_ringAvail {s : State} (h : CursorsOk s) : ringSlot s (ringAvail s) = s.wr := by
  rw [ringSlot_eq h (ringAvail_lt h), ringAvail_eq h]
  have := h.2
  split_ifs <;> omega

theorem cursorsOk_enqueue {s : State} (h : CursorsOk s) (b : Byte) : CursorsOk (enqueue s b) :=
  ⟨h.1, by simpa using cursorNext_lt h.1 _, h.2.2⟩

theorem cursorsOk_advanceRd {s : State} (h : CursorsOk s) : CursorsOk (advanceRd s) :=
  ⟨h.1, h.2.1, cursorNext_lt h.1 _⟩

/-- One more byte, or none left to see after an overflow (R270). -/
theorem ringAvail_enqueue {s : State} (h : CursorsOk s) (b : Byte) :
    ringAvail (enqueue s b) = if ringAvail s = s.cfg.cap - 1 then 0 else ringAvail s + 1 := by
  have hw : (enqueue s b).wr = if s.wr + 1 = s.cfg.cap then 0 else s.wr + 1 := by
    simp only [enqueue_wr, cursorNext_eq h.1]
    split
    · simp [*]
    · exact Nat.mod_eq_of_lt (by have := h.2.1; omega)
  rw [ringAvail_eq (cursorsOk_enqueue h b), ringAvail_eq h, hw]
  have := h.2
  have := Config.wf_cap_ge h.1
  simp only [enqueue_rd, enqueue_cfg]
  split_ifs <;> omega

/-- A `DEQ` takes one byte away. -/
theorem ringAvail_advanceRd {s : State} (h : CursorsOk s) (hne : s.rd ≠ s.wr) :
    ringAvail s = ringAvail (advanceRd s) + 1 := by
  have hr : (advanceRd s).rd = if s.rd + 1 = s.cfg.cap then 0 else s.rd + 1 := by
    simp only [advanceRd_rd, cursorNext_eq h.1]
    split
    · simp [*]
    · exact Nat.mod_eq_of_lt (by have := h.2.2; omega)
  rw [ringAvail_eq (cursorsOk_advanceRd h), ringAvail_eq h, hr]
  have := h.2
  have := Config.wf_cap_ge h.1
  simp only [advanceRd_wr, advanceRd_cfg]
  split_ifs <;> omega

theorem ringSlot_advanceRd {s : State} (h : CursorsOk s) (i : Nat) : ringSlot (advanceRd s) i = ringSlot s (i + 1) := by
  simp only [ringSlot, advanceRd_cfg, advanceRd_rd, cursorNext_eq h.1, Nat.mod_add_mod]
  congr 1
  omega

theorem advanceRd_eq {s : State} (h : s.cfg.wf = true) : advanceRd s = { s with rd := (s.rd + 1) % s.cfg.cap } := by
  unfold advanceRd
  rw [cursorNext_eq h]

/-- What the consumer can see depends on the array, the cursors and the configuration only (R23). -/
theorem ringContents_congr {s t : State} (h1 : t.ring = s.ring) (h2 : t.wr = s.wr) (h3 : t.rd = s.rd)
    (h4 : t.cfg = s.cfg) : ringContents t = ringContents s := by
  simp [ringContents, ringAvail, ringSlot, h1, h2, h3, h4]

/-- A run of operations in two pieces. -/
theorem runOps_append (a b : List Instr) {s t : State} (h : runOps a s = .next t) : runOps (a ++ b) s = runOps b t := by
  induction a generalizing s with
  | nil => cases h; rfl
  | cons i a ih =>
    simp only [List.cons_append, runOps] at h ⊢
    cases he : exec i s with
    | next u => rw [he] at h; exact ih h
    | fault f => rw [he] at h; cases h
    | refused r => rw [he] at h; cases h

end Sys2Proof.Machine
end

