-- ==== Sys2Proof/Laws/Serial.lean ====
section
/-! SUPPORT. What the shared procedures can do: the CRC engine against `CRC16`, `Discharge`, `Respond`,
`SendTxbuf`, `BuildData`. -/

namespace Sys2Proof.Machine

/-- R132: feeding two pieces is feeding their concatenation. -/
theorem crcAccumulate_append (u v : List Byte) (s : State) :
    crcAccumulate (u ++ v) s = crcAccumulate v (crcAccumulate u s) := by
  simp [crcAccumulate, List.foldl_append]

/-- R138: the engine, configured as the FRAMER does, returns `CRC16`. -/
@[simp] theorem crcValue_crcRun (bs : List Byte) (s : State) : crcValue (crcRun bs s) = crc16 bs := by
  simp [crcValue]

/-- `Discharge` with an ACK owed. -/
theorem discharge_of_ack {s : State} (h : s.ackOwed = true) :
    discharge s = { s with tx := s.tx ++ syncFrame s.cfg .ack, ackOwed := false, b2b := true } := by
  unfold discharge; rw [if_pos h]; rfl

/-- `Discharge` with an ACK-ABORT owed. -/
theorem discharge_of_abort {s : State} (h : s.ackOwed = false) (h' : s.abortOwed = true) :
    discharge s = { s with tx := s.tx ++ syncFrame s.cfg .ackAbort, abortOwed := false, b2b := true } := by
  unfold discharge; rw [if_neg (by simp [h]), if_pos h']; rfl

/-- `Discharge` with nothing owed. -/
theorem discharge_of_none {s : State} (h : s.ackOwed = false) (h' : s.abortOwed = false) : discharge s = s := by
  unfold discharge; rw [if_neg (by simp [h]), if_neg (by simp [h'])]

/-- `Idle()` (R211). -/
theorem linkIdle_iff {s : State} :
    linkIdle s = true ↔ s.ackOwed = false ∧ s.abortOwed = false ∧ s.b2b = false := by
  unfold linkIdle; cases s.ackOwed <;> cases s.abortOwed <;> cases s.b2b <;> simp

/-- What `SendTxbuf` can do (R184). -/
theorem sendTxbuf_ok {s t : State} :
    sendTxbuf s = .ok t ↔ ∃ bs, readBytes .txbuf s.txbuf (s.cfg.txCap + 6) 0 s.txLen = .ok bs ∧
      t = { s with tx := s.tx ++ bs, b2b := false } := by
  unfold sendTxbuf
  cases h : readBytes .txbuf s.txbuf (s.cfg.txCap + 6) 0 s.txLen with
  | error f => simp
  | ok bs => simp [emit, eq_comm]

/-- What `BuildData` can do (R183). -/
theorem buildData_ok {cls : FrameClass} {p : List Byte} {s t : State} :
    buildData cls p s = .ok t ↔ p.length ≤ s.cfg.txCap ∧ t = storeFrame cls p s := by
  unfold buildData; split <;> simp [*, eq_comm]

/-- A procedure followed by a step: both go on. -/
theorem andThen_next {r : Except Fault State} {k : State → Out} {t : State} :
    andThen r k = .next t ↔ ∃ u, r = .ok u ∧ k u = .next t := by
  unfold andThen; cases r <;> simp

end Sys2Proof.Machine
end

