-- ==== Sys2Proof/Laws/Steps.lean ====
section
/-! SUPPORT. What each operation can do, once: if its meaning answers a next state, then the state is one of these. -/

namespace Sys2Proof.Machine

/-- What `Discharge` emits (R201). -/
theorem discharge_tx (s : State) : (discharge s).tx = s.tx ++ owedBytes s := by
  unfold discharge owedBytes
  split
  · rfl
  · split
    · rfl
    · simp

/-- After `Discharge` nothing is owed (R201). -/
theorem discharge_owed {s : State} (h : OwedOne s) :
    (discharge s).ackOwed = false ∧ (discharge s).abortOwed = false := by
  unfold OwedOne at h
  unfold discharge
  cases ha : s.ackOwed <;> cases hb : s.abortOwed <;> simp_all [syncEmit, emit]

theorem discharge_b2b (s : State) : (discharge s).b2b = (s.b2b || s.ackOwed || s.abortOwed) := by
  unfold discharge
  cases ha : s.ackOwed <;> cases hb : s.abortOwed <;> simp

/-- `Respond` writes `tx` only, and only appends (R210). -/
theorem respond_eq (s : State) : respond s = { s with tx := (respond s).tx } ∧ ∃ m, (respond s).tx = s.tx ++ m := by
  unfold respond
  split
  · exact ⟨rfl, _, rfl⟩
  · exact ⟨rfl, [], by simp⟩

/-- What `BuildData` leaves besides `TXBUF` (R183, R141). -/
theorem storeFrame_eq (cls : FrameClass) (p : List Byte) (s : State) : storeFrame cls p s = { s with
    txbuf := (storeFrame cls p s).txbuf, txLen := 6 + p.length, crcAcc := (storeFrame cls p s).crcAcc
    crcPoly := xmodemPoly, crcInit := 0, crcRefin := false, crcRefout := false, crcXorout := 0 } := rfl

/-- The two arms of verify: what they leave (R162, R163). -/
theorem verifyPayload_eq (p : List Byte) (s : State) :
    verifyPayload p s = { s with
      crcAcc := s.csumRx, crcPoly := xmodemPoly, crcInit := 0, crcRefin := false, crcRefout := false, crcXorout := 0
      result := .ok, stage := .idle, ackOwed := true, rxLen := s.lenEff } ∨
    ∃ a, verifyPayload p s = { s with
      crcAcc := a, crcPoly := xmodemPoly, crcInit := 0, crcRefin := false, crcRefout := false, crcXorout := 0
      tx := s.tx ++ [s.cfg.sof, s.cfg.tNak], b2b := true, stage := .rSeek } := by
  unfold verifyPayload
  simp only
  split
  · rename_i h
    rw [crcValue_crcRun] at h
    exact .inl (congrArg (fun a : U16 => ({ s with
      crcAcc := a, crcPoly := xmodemPoly, crcInit := 0, crcRefin := false, crcRefout := false, crcXorout := 0
      result := .ok, stage := .idle, ackOwed := true, rxLen := s.lenEff } : State)) h)
  · exact .inr ⟨_, rfl⟩

theorem execDeq_next {s t : State} (h : execDeq s = .next t) : ClientFree s ∧
    (t = s ∨ (s.rd ≠ s.wr ∧ ∃ a, t = { advanceRd s with portRet := a })) := by
  obtain ⟨h2, h1, h⟩ := readerPort_next.1 h
  split at h
  · refine ⟨⟨h1, h2, ‹_›⟩, ?_⟩
    rcases dequeue_next h with ⟨_, h⟩ | ⟨b, hne, _, _, h⟩
    · cases h; exact .inl rfl
    · cases h; exact .inr ⟨hne, _, rfl⟩
  · cases h

theorem execRdx_next {n : Nat} {tmo : TmoSel} {s t : State} (h : execRdx n tmo s = .next t) :
    s.stage = .idle ∧ s.flt = false ∧
    ∃ a x, t = { s with portRet := a, rdx := x } ∨ (s.rd ≠ s.wr ∧ t = { advanceRd s with portRet := a, rdx := x }) := by
  have turn : ∀ y, rdxTurn y s = .next t →
      ∃ a x, t = { s with portRet := a, rdx := x } ∨ (s.rd ≠ s.wr ∧ t = { advanceRd s with portRet := a, rdx := x }) := by
    intro y hy
    unfold rdxTurn at hy
    split at hy
    · cases hy; exact ⟨_, _, .inl rfl⟩
    · rcases dequeue_next hy with ⟨_, hy⟩ | ⟨b, hne, _, _, hy⟩
      · cases hy; exact ⟨_, _, .inl rfl⟩
      · simp only at hy
        split at hy <;> cases hy
        · exact ⟨_, _, .inr ⟨hne, rfl⟩⟩
        · exact ⟨_, _, .inr ⟨hne, rfl⟩⟩
  obtain ⟨h2, h1, h⟩ := readerPort_next.1 h
  refine ⟨h1, h2, ?_⟩
  split at h
  · exact turn _ h
  · split at h
    · exact turn _ h
    · cases h

theorem execTimeout_next {s t : State} (h : execTimeout s = .next t) :
    (s.stage.bounded = true ∧ s.flt = false ∧ s.tmo = .bounded ∧ s.cfg.timeoutImpl = true ∧ s.rd = s.wr ∧
      t = raise .timeout s) ∨
    s.flt = false ∧ ∃ a, t = { s with portRet := a, rdx := none } := by
  unfold execTimeout at h
  split at h
  · cases h
    rename_i hd
    simp only [drawEnabled, waitMayExpire, ringEmpty, Bool.and_eq_true, decide_eq_true_eq, Bool.not_eq_true'] at hd
    exact .inl ⟨hd.1.1, hd.1.2, hd.2.1.1, hd.2.1.2, hd.2.2, rfl⟩
  · split at h
    · cases h
    · split at h
      · rename_i hx
        cases h; exact .inr ⟨hx.1, _, rfl⟩
      · cases h

theorem execWrite_next {cls : FrameClass} {p : List Byte} {tmo : TmoSel} {s t : State}
    (h : execWrite cls p tmo s = .next t) : (s.stage = .idle ∧ s.flt = false ∧ s.rdx = none) ∧
    ((s.cfg.txCap < p.length ∧ t = raise .invalidArgument s) ∨
     (p.length ≤ s.cfg.txCap ∧ ∃ bs,
      readBytes .txbuf (storeFrame cls p (discharge s)).txbuf (s.cfg.txCap + 6) 0 (6 + p.length) = .ok bs ∧
      t = { storeFrame cls p (discharge s) with
        tx := s.tx ++ owedBytes s ++ bs, b2b := false, tmo := tmo, stage := .wSeek })) := by
  unfold execWrite at h
  obtain ⟨h0, h⟩ := clientCall_next.1 h
  refine ⟨h0, ?_⟩
  split at h
  · cases h; exact .inl ⟨‹_›, rfl⟩
  · obtain ⟨u, hu, h⟩ := andThen_next.1 h
    obtain ⟨v, hv, h⟩ := andThen_next.1 h
    cases h
    obtain ⟨h1, rfl⟩ := buildData_ok.1 hu
    obtain ⟨bs, hb, rfl⟩ := sendTxbuf_ok.1 hv
    have hc : (storeFrame cls p (discharge s)).cfg = s.cfg := by rw [storeFrame_eq]; simp
    have ht : (storeFrame cls p (discharge s)).tx = s.tx ++ owedBytes s := by rw [storeFrame_eq]; simp [discharge_tx]
    rw [hc] at hb
    refine .inr ⟨by simpa using h1, bs, hb, ?_⟩
    rw [ht]

theorem execRSeek_next {s t : State} (h : execRSeek s = .next t) : s.stage = .rSeek ∧ s.flt = false ∧
    (t = s ∨ (s.rd ≠ s.wr ∧ (t = { advanceRd s with hdr0 := s.cfg.sof, stage := .rType } ∨ t = advanceRd s))) := by
  obtain ⟨h1, h2, ⟨_, h⟩ | ⟨b, hne, _, _, h⟩⟩ := stageByte_next h
  · exact ⟨h1, h2, .inl h⟩
  · refine ⟨h1, h2, .inr ⟨hne, ?_⟩⟩
    split at h
    · rename_i e; subst e; cases h; exact .inl rfl
    · cases h; exact .inr rfl

theorem execWSeek_next {s t : State} (h : execWSeek s = .next t) : s.stage = .wSeek ∧ s.flt = false ∧
    (t = s ∨ (s.rd ≠ s.wr ∧ (t = { advanceRd s with stage := .wType } ∨ t = advanceRd s))) := by
  obtain ⟨h1, h2, ⟨_, h⟩ | ⟨b, hne, _, _, h⟩⟩ := stageByte_next h
  · exact ⟨h1, h2, .inl h⟩
  · refine ⟨h1, h2, .inr ⟨hne, ?_⟩⟩
    split at h <;> cases h
    · exact .inl rfl
    · exact .inr rfl

theorem execRType_next {s t : State} (h : execRType s = .next t) : s.stage = .rType ∧ s.flt = false ∧
    (t = s ∨ (s.rd ≠ s.wr ∧ ∃ b, s.ring.get s.rd = some b ∧
     ((b = s.cfg.tPing ∧ t = { respond (advanceRd s) with stage := .rSeek }) ∨
      (b ≠ s.cfg.tPing ∧ b = classCode s.cfg s.exp ∧
        t = { advanceRd s with hdr1 := b, b2b := false, stage := .rLen, cnt := 0 }) ∨
      (b ≠ s.cfg.tPing ∧ b ≠ classCode s.cfg s.exp ∧
        t = raise .protocolMismatch { advanceRd s with b2b := false })))) := by
  obtain ⟨h1, h2, ⟨_, h⟩ | ⟨b, hne, _, hb, h⟩⟩ := stageByte_next h
  · exact ⟨h1, h2, .inl h⟩
  · refine ⟨h1, h2, .inr ⟨hne, b, hb, ?_⟩⟩
    split at h
    · cases h; exact .inl ⟨‹_›, rfl⟩
    · split at h <;> cases h
      · exact .inr (.inl ⟨‹_›, ‹_›, rfl⟩)
      · exact .inr (.inr ⟨‹_›, ‹_›, rfl⟩)

theorem execRLen_next {s t : State} (h : execRLen s = .next t) : s.stage = .rLen ∧ s.flt = false ∧
    (t = s ∨ (s.rd ≠ s.wr ∧ ∃ b,
     (s.cnt = 0 ∧ t = { advanceRd s with lenWire := setLoByte s.lenWire b, cnt := 1 }) ∨
     (s.cnt ≠ 0 ∧ t = lengthComplete { advanceRd s with lenWire := setHiByte s.lenWire b }))) := by
  obtain ⟨h1, h2, ⟨_, h⟩ | ⟨b, hne, _, _, h⟩⟩ := stageByte_next h
  · exact ⟨h1, h2, .inl h⟩
  · refine ⟨h1, h2, .inr ⟨hne, b, ?_⟩⟩
    split at h <;> cases h
    · exact .inl ⟨‹_›, rfl⟩
    · exact .inr ⟨‹_›, rfl⟩

theorem execRCsum_next {s t : State} (h : execRCsum s = .next t) : s.stage = .rCsum ∧ s.flt = false ∧
    (t = s ∨ (s.rd ≠ s.wr ∧ ∃ b,
     (s.cnt = 0 ∧ t = { advanceRd s with csumRx := setLoByte s.csumRx b, cnt := 1 }) ∨
     (s.cnt ≠ 0 ∧ t = checksumComplete { advanceRd s with csumRx := setHiByte s.csumRx b }))) := by
  obtain ⟨h1, h2, ⟨_, h⟩ | ⟨b, hne, _, _, h⟩⟩ := stageByte_next h
  · exact ⟨h1, h2, .inl h⟩
  · refine ⟨h1, h2, .inr ⟨hne, b, ?_⟩⟩
    split at h <;> cases h
    · exact .inl ⟨‹_›, rfl⟩
    · exact .inr ⟨‹_›, rfl⟩

theorem execRPay_next {s t : State} (h : execRPay s = .next t) : s.stage = .rPay ∧ s.flt = false ∧
    (t = s ∨ (s.rd ≠ s.wr ∧ s.cnt.toNat < s.cfg.rxCap ∧ ∃ b,
     (s.cnt.toNat + 1 = s.lenEff.toNat ∧
       t = { advanceRd s with rxbuf := s.rxbuf.put s.cnt.toNat b, stage := .rVerify }) ∨
     (s.cnt.toNat + 1 ≠ s.lenEff.toNat ∧
       t = { advanceRd s with rxbuf := s.rxbuf.put s.cnt.toNat b, cnt := s.cnt + 1 }))) := by
  obtain ⟨h1, h2, ⟨_, h⟩ | ⟨b, hne, _, _, h⟩⟩ := stageByte_next h
  · exact ⟨h1, h2, .inl h⟩
  · refine ⟨h1, h2, ?_⟩
    split at h
    · refine .inr ⟨hne, ‹_›, b, ?_⟩
      split at h <;> cases h
      · exact .inl ⟨‹_›, rfl⟩
      · exact .inr ⟨‹_›, rfl⟩
    · cases h

theorem execRVerify_next {s t : State} (h : execRVerify s = .next t) : s.stage = .rVerify ∧ s.flt = false ∧
    ∃ p, readBytes .rxbuf s.rxbuf s.cfg.rxCap 0 s.lenEff.toNat = .ok p ∧ t = verifyPayload p s := by
  obtain ⟨h1, h2, h⟩ := atStage_next.1 h
  refine ⟨h1, h2, ?_⟩
  split at h <;> cases h
  exact ⟨_, ‹_›, rfl⟩

theorem execWType_next {s t : State} (h : execWType s = .next t) : s.stage = .wType ∧ s.flt = false ∧
    (t = s ∨ (s.rd ≠ s.wr ∧ ∃ b, s.ring.get s.rd = some b ∧
     ((b = s.cfg.tAck ∧ t = raise .ok { advanceRd s with b2b := false }) ∨
      (b = s.cfg.tAckAbort ∧ t = raise .abort { advanceRd s with b2b := false }) ∨
      (b = s.cfg.tNak ∧ ∃ bs, readBytes .txbuf s.txbuf (s.cfg.txCap + 6) 0 s.txLen = .ok bs ∧
        t = { advanceRd s with b2b := false, tx := s.tx ++ bs, stage := .wSeek }) ∨
      (b ∉ [s.cfg.tAck, s.cfg.tNak, s.cfg.tAckAbort] ∧
        t = raise .protocolMismatch { advanceRd s with b2b := false })))) := by
  obtain ⟨h1, h2, ⟨_, h⟩ | ⟨b, hne, _, hb, h⟩⟩ := stageByte_next h
  · exact ⟨h1, h2, .inl h⟩
  · refine ⟨h1, h2, .inr ⟨hne, b, hb, ?_⟩⟩
    simp only at h
    split at h
    · cases h; exact .inl ⟨‹_›, rfl⟩
    · split at h
      · cases h; exact .inr (.inl ⟨‹_›, rfl⟩)
      · split at h
        · obtain ⟨u, hu, h⟩ := andThen_next.1 h
          obtain ⟨bs, hr, rfl⟩ := sendTxbuf_ok.1 hu
          cases h
          exact .inr (.inr (.inl ⟨‹_›, bs, hr, rfl⟩))
        · cases h; exact .inr (.inr (.inr ⟨by simp [*], rfl⟩))

end Sys2Proof.Machine
end

