-- ==== Sys2Proof/Tests/Slice0.lean ====
section
/-! SUPPORT. The model's own tests: ill-formed terms that the checks refuse, wire words written out by hand from
spec/30_encoding.md and the frames of spec/43_frame_encoder.md R188, check values of spec/41_crc16.md R142, single
steps with the expected values of spec/95_test_vectors.md (each theorem names its vector), and for every
obligation with hypotheses a state and operands that meet them. -/

namespace Sys2Proof.Tests

open Sys2Proof Sys2Proof.Machine

/-- A small configuration: the default profile with `CAP = 8` and buffers of 4 bytes. -/
def tiny : Config := { defaultProfile with cap := 8, rxCap := 4, txCap := 4 }

/-- Reset state of the small configuration. -/
def base : State := State.resetOf tiny

/-- `base` in a stage. -/
def inStage (st : Stage) : State := { base with stage := st }

/-- The state after the host has sent these bytes. -/
def fed (bs : List Byte) (s : State) : State := bs.foldl enqueue s

/-- The outcome is a next state with the property. -/
def okWith (o : Out) (p : State → Bool) : Bool :=
  match o with
  | .next t => p t
  | .fault _ => false
  | .refused _ => false

/-- The outcome is this refusal. -/
def refusedWith (o : Out) (r : Refusal) : Bool :=
  match o with
  | .next _ => false
  | .fault _ => false
  | .refused q => decide (q = r)

/-- The frame of VE6 as `TXBUF` holds it, in a block with `TX_CAP = 4`. -/
def sentFrame : List Byte := [0x5A, 0xA5, 0x03, 0x00, 0xC5, 0x47, 0x11, 0x22, 0x33]

/-- `base` after that frame was built. -/
def afterBuild : State := { base with txbuf := Memory.putAll [] 0 sentFrame, txLen := 9 }

/-- `base` at verify, the frame of R168 received. -/
def atVerify : State :=
  { base with stage := .rVerify, exp := .data, hdr0 := 0x5A, hdr1 := 0xA5, hdr2 := 0x04, hdr3 := 0x00
              lenWire := 4, lenEff := 4, csumRx := 0xED12, rxbuf := [(0, 1), (1, 2), (2, 3), (3, 4)] }

/-! ## Well-formedness (R7, R110, R92): each check refuses an ill-formed term -/

theorem test_wf_defaults : defaultProfile.wf = true ∧ tiny.wf = true := by decide
/-- VR17. -/
theorem test_wf_cap : ({ tiny with cap := 6 } : Config).wf = false ∧ ({ tiny with cap := 0 } : Config).wf = false ∧
    ({ tiny with cap := 1 } : Config).wf = false := by decide
theorem test_wf_rxCap : ({ tiny with rxCap := 65536 } : Config).wf = false := by decide
theorem test_wf_txCap : ({ tiny with txCap := 65536 } : Config).wf = false := by decide
theorem test_wf_types : ({ tiny with tNak := 0xA1 } : Config).wf = false := by decide
theorem test_wf_rsvd : ({ tiny with rsvd := 1 } : Config).wf = false := by decide
/-- R7 clause 3 lets `SOF` equal a type code. -/
theorem test_wf_sof : ({ tiny with sof := 0xA1 } : Config).wf = true := by decide

/-- A payload of one byte too many for the length field. -/
def tooLong : List Byte := List.replicate 65536 0

theorem tooLong_length : tooLong.length = 65536 := List.length_replicate

theorem test_wf_write : (Instr.write .cmd tooLong .none).wf tiny = false := by
  rw [Instr.wf, tooLong_length]; decide
theorem test_wf_command : (Instr.command 0 tooLong).wf tiny = false := by
  rw [Instr.wf, tooLong_length]; decide
theorem test_wf_data : (Instr.data 0 tooLong).wf tiny = false := by
  rw [Instr.wf, tooLong_length]; decide
theorem test_wf_buildData : (Instr.buildData .cmd [1, 2, 3, 4, 5]).wf tiny = false ∧
    (Instr.buildData .cmd [1, 2, 3, 4]).wf tiny = true := by decide

/-! ## Decoding (R82, R83, R86; the bytes of R188) -/

theorem test_decode_ack : decode defaultProfile [0x5A, 0xA1] = .ok (.ack, []) := by decide
theorem test_decode_nak : decode defaultProfile [0x5A, 0xA2] = .ok (.nak, []) := by decide
theorem test_decode_ackAbort : decode defaultProfile [0x5A, 0xA3] = .ok (.ackAbort, []) := by decide
theorem test_decode_ping : decode defaultProfile [0x5A, 0xA6, 0x5A] = .ok (.ping, [0x5A]) := by decide
theorem test_decode_command : decode defaultProfile [0x5A, 0xA4, 0x02, 0x00, 0x99, 0x5C, 0xAA, 0xBB] =
    .ok (.command 0x5C99 [0xAA, 0xBB], []) := by decide
theorem test_decode_data : decode defaultProfile [0x5A, 0xA5, 0x03, 0x00, 0xC5, 0x47, 0x11, 0x22, 0x33, 0x44] =
    .ok (.data 0x47C5 [0x11, 0x22, 0x33], [0x44]) := by decide
theorem test_decode_pingResponse :
    decode defaultProfile [0x5A, 0xA7, 0x00, 0x02, 0x01, 0x50, 0x00, 0x00, 0xAA, 0xEA] =
    .ok (.pingResponse { bugfix := 0x00, minor := 0x02, major := 0x01, name := 0x50, rsvd := 0, mark := 0xEAAA }, []) := by
  decide
theorem test_decode_rejects : decode defaultProfile [0x00, 0xA1] = .error .noStartMarker ∧
    decode defaultProfile [0x5A, 0xA8] = .error .unassignedType ∧
    decode defaultProfile [0x5A, 0xA4, 0x01, 0x00, 0x00, 0x00] = .error .truncated ∧
    decode defaultProfile [] = .error .truncated := by decide
/-- R96: the match column of the table, first wire byte in the high half. -/
theorem test_tableWords : [0x5AA1, 0x5AA2, 0x5AA3, 0x5AA4, 0x5AA5, 0x5AA6].map (decodeTableWord 16) =
    [some .ack, some .nak, some .ackAbort, some (.command 0 []), some (.data 0 []), some .ping] := by decide
theorem test_tableWord_response : decodeTableWord 16 0x5AA7 =
    some (.pingResponse { bugfix := 0, minor := 0, major := 0, name := 0, rsvd := 0, mark := 0 }) := by decide
/-- VE2, VE4: the encoder against the bytes of R188. -/
theorem test_encode_data : encode defaultProfile (.data 0x4BFC []) = some [0x5A, 0xA5, 0x00, 0x00, 0xFC, 0x4B] ∧
    encode defaultProfile (.data 0xC920 [0x5A]) = some [0x5A, 0xA5, 0x01, 0x00, 0x20, 0xC9, 0x5A] := by decide

/-! ## The checksum (R142; VC1 to VC16) -/

theorem test_crc_check_value : crc16 [0x31, 0x32, 0x33, 0x34, 0x35, 0x36, 0x37, 0x38, 0x39] = 0x31C3 := by
  decide +kernel
theorem test_crc_bytes : [[], [0x00], [0x01], [0x80], [0xFF], [0x41], [0xFF, 0xFF]].map crc16 =
    [0x0000, 0x0000, 0x1021, 0x9188, 0x1EF0, 0x58E5, 0x1D0F] := by decide +kernel
theorem test_crc_frame : crc16 [0x5A, 0xA5, 0x04, 0x00, 0x01, 0x02, 0x03, 0x04] = 0xED12 := by decide +kernel
/-- VC16: high byte first gives residue zero, wire order does not. -/
theorem test_crc_residue : crc16 [0x31, 0x32, 0x33, 0x34, 0x35, 0x36, 0x37, 0x38, 0x39, 0x31, 0xC3] = 0 ∧
    crc16 [0x31, 0x32, 0x33, 0x34, 0x35, 0x36, 0x37, 0x38, 0x39, 0xC3, 0x31] = 0xBAFE := by decide +kernel
/-- The other engine configurations of 95_test_vectors.md section 2.2. -/
theorem test_crc_engine_reflected : okWith (runOps [.crcCfg 0x1021 0 true true 0,
      .crcAcc [0x31, 0x32, 0x33, 0x34, 0x35, 0x36, 0x37, 0x38, 0x39], .crcFin] base)
    (fun t => t.portRet == .word 0x2189) = true := by decide +kernel
theorem test_crc_engine_xorout : okWith (runOps [.crcCfg 0x1021 0xFFFF false false 0xFFFF,
      .crcAcc [0x31, 0x32, 0x33, 0x34, 0x35, 0x36, 0x37, 0x38, 0x39], .crcFin] base)
    (fun t => t.portRet == .word 0xD64E) = true := by decide +kernel

/-! ## RING (VR1 to VR16) -/

/-- VR3: the write cursor wraps. -/
theorem test_enq_wraps : okWith (exec (.enq 0x41) { base with wr := 7, rd := 2 })
    (fun t => t.wr == 0 && t.ring.get 7 == some 0x41 && ringAvail t == 6) = true := by decide
/-- VR4. -/
theorem test_avail_wrapped : okWith (exec .avail { base with wr := 1, rd := 6 })
    (fun t => t.portRet == .count 3) = true := by decide
theorem test_empty : okWith (exec .empty { base with wr := 1, rd := 6 })
    (fun t => t.portRet == .flag false) = true := by decide
/-- VR6. -/
theorem test_deq_wraps : okWith (exec .deq { base with ring := [(7, 0x99)], rd := 7, wr := 1 })
    (fun t => t.portRet == .byte 0x99 && t.rd == 0 && ringAvail t == 1) = true := by decide
/-- VR10. -/
theorem test_enq_overflow : okWith (exec (.enq 0x18) (fed [0x11, 0x12, 0x13, 0x14, 0x15, 0x16, 0x17] base))
    (fun t => t.wr == 0 && ringEmpty t) = true := by decide
/-- VR14: the byte stays consumed. -/
theorem test_rdx_then_timeout : okWith (runOps [.rdx 2 .bounded, .timeout] (fed [0x04] base))
    (fun t => t.portRet == .timedOut [0x04] && t.rd == 1) = true := by decide
/-- R38, R243: with `flt = 1` `SEQ` has no step, an `RDX` of the harness neither (log 27). -/
theorem test_faulted_readers :
    refusedWith (exec .deq { fed [0x04] base with flt := true }) .sequencerFaulted = true ∧
    okWith (step { fed [0x04] base with flt := true, rdx := some { want := 2, tmo := .none, got := [] }, sched := [.seq] })
      (fun t => t.rd == 0 && t.sched == []) = true := by decide
/-- VR16. -/
theorem test_rdx_zero : okWith (exec (.rdx 0 .bounded) base)
    (fun t => t.portRet == .bytes [] && t.rd == 0) = true := by decide

/-! ## The decoder (VD1 to VD20) -/

/-- VS3. -/
theorem test_read_discharges : okWith (exec (.read .data .none .valid) { base with ackOwed := true })
    (fun t => t.tx == [0x5A, 0xA1] && !t.ackOwed && t.b2b && t.stage == .rSeek) = true := by decide
/-- VD16. -/
theorem test_read_null : okWith (exec (.read .data .none .null) { base with ackOwed := true })
    (fun t => t.result == .invalidArgument && t.ackOwed && t.tx == [] && t.stage == .idle) = true := by decide
/-- VD12: noise is dropped. -/
theorem test_rSeek_drops : okWith (exec .rSeek (fed [0x00, 0x5A] (inStage .rSeek)))
    (fun t => t.stage == .rSeek && t.rd == 1) = true := by decide
theorem test_rSeek_accepts : okWith (exec .rSeek (fed [0x5A] (inStage .rSeek)))
    (fun t => t.stage == .rType && t.hdr0 == 0x5A) = true := by decide
/-- VD5. -/
theorem test_rType_probe : okWith (exec .rType (fed [0xA6] (inStage .rType)))
    (fun t => t.tx == [0x5A, 0xA7, 0x00, 0x02, 0x01, 0x50, 0x00, 0x00, 0xAA, 0xEA] && t.stage == .rSeek) = true := by
  decide
/-- VD7: `exp = DATA`, a command frame. -/
theorem test_rType_mismatch : okWith (exec .rType (fed [0xA4] { inStage .rType with exp := .data, b2b := true }))
    (fun t => t.result == .protocolMismatch && t.stage == .idle && !t.b2b && t.tx == []) = true := by decide
/-- VD10: length 6 clamped to 4, and what `CRC_LEN_SRC = wire` keeps. -/
theorem test_rLen_clamps : okWith (exec .rLen (fed [0x00] { inStage .rLen with cnt := 1, lenWire := 0x0006 }))
    (fun t => t.lenWire == 6 && t.lenEff == 4 && t.hdr2 == 4 && t.hdr3 == 0 && t.stage == .rCsum) = true := by decide
theorem test_rLen_wire : okWith (exec .rLen (fed [0xFF] { inStage .rLen with
      cnt := 1, lenWire := 0x00FF, cfg := { tiny with crcLenSrc := .wire } }))
    (fun t => t.lenEff == 4 && t.hdr2 == 0xFF && t.hdr3 == 0xFF) = true := by decide
/-- R157's example: bytes `12 ED`. -/
theorem test_rCsum : okWith (exec .rCsum (fed [0xED] { inStage .rCsum with cnt := 1, csumRx := 0x0012, lenEff := 4 }))
    (fun t => t.csumRx == 0xED12 && t.rxbuf == [(0, 0), (1, 0), (2, 0), (3, 0)] && t.stage == .rPay) = true := by
  decide
/-- VD2: no payload, straight to verify. -/
theorem test_rCsum_empty : okWith (exec .rCsum (fed [0x7C] { inStage .rCsum with cnt := 1 }))
    (fun t => t.stage == .rVerify) = true := by decide
theorem test_rPay_last : okWith (exec .rPay (fed [0x5A] { inStage .rPay with cnt := 3, lenEff := 4 }))
    (fun t => t.rxbuf.get 3 == some 0x5A && t.stage == .rVerify) = true := by decide
/-- VD1, VD3: the last step. -/
theorem test_rVerify_match : okWith (exec .rVerify atVerify)
    (fun t => t.result == .ok && t.rxLen == 4 && t.ackOwed && t.tx == [] && t.crcAcc == 0xED12) = true := by
  decide +kernel
theorem test_rVerify_mismatch : okWith (exec .rVerify { atVerify with csumRx := 0xED13 })
    (fun t => t.stage == .rSeek && t.rxLen == 0 && !t.ackOwed && t.tx == [0x5A, 0xA2] && t.b2b) = true := by
  decide +kernel
/-- VD14: silence inside the checksum field. -/
theorem test_timeout : okWith (exec .timeout { inStage .rCsum with tmo := .bounded, cnt := 1 })
    (fun t => t.result == .timeout && t.stage == .idle && t.tx == []) = true := by decide
/-- VX4, VX5, VX6. -/
theorem test_timeout_not_enabled :
    refusedWith (exec .timeout (fed [0x00] { inStage .rLen with tmo := .bounded })) .drawNotEnabled = true ∧
    refusedWith (exec .timeout { inStage .rSeek with tmo := .bounded }) .drawNotEnabled = true ∧
    refusedWith (exec .timeout { inStage .rLen with tmo := .bounded, cfg := { tiny with timeoutImpl := false } })
      .drawNotEnabled = true := by decide

/-! ## The encoder and the session (VE1 to VE14, VS1 to VS17) -/

/-- VE6, and VS15's order: the owed ACK-ABORT first. -/
theorem test_write : okWith (exec (.write .data [0x11, 0x22, 0x33] .bounded) { base with abortOwed := true })
    (fun t => t.tx == [0x5A, 0xA3] ++ sentFrame && t.txLen == 9 && t.stage == .wSeek && !t.b2b) = true := by
  decide +kernel
/-- VX2: one byte too many. -/
theorem test_write_oversized : okWith (exec (.write .data [1, 2, 3, 4, 5] .none) { base with ackOwed := true })
    (fun t => t.result == .invalidArgument && t.ackOwed && t.tx == [] && t.txLen == 0) = true := by decide
/-- VE5, and the low byte first in the checksum field. -/
theorem test_buildData : okWith (exec (.buildData .cmd [0xAA, 0xBB]) base)
    (fun t => t.txbuf == [(0, 0x5A), (1, 0xA4), (2, 0x02), (3, 0x00), (4, 0x99), (5, 0x5C), (6, 0xAA), (7, 0xBB)] &&
      t.tx == []) = true := by decide +kernel
/-- VE14. -/
theorem test_sendTxbuf : okWith (runOps [.sendTxbuf, .sendTxbuf] afterBuild)
    (fun t => t.tx == sentFrame ++ sentFrame && t.txLen == 9) = true := by decide
/-- VE12, VE13. -/
theorem test_emitters : okWith (runOps [.syncEmit .ack, .syncEmit .nak, .syncEmit .ackAbort, .respEmit] base)
    (fun t => t.tx == [0x5A, 0xA1, 0x5A, 0xA2, 0x5A, 0xA3, 0x5A, 0xA7, 0x00, 0x02, 0x01, 0x50, 0x00, 0x00, 0xAA, 0xEA]) =
    true := by decide
theorem test_discharge : okWith (exec .discharge { base with abortOwed := true })
    (fun t => t.tx == [0x5A, 0xA3] && !t.abortOwed && t.b2b) = true := by decide
/-- VD6: a probe while the link is not idle. -/
theorem test_respond_suppressed : okWith (exec .respond { base with b2b := true })
    (fun t => t.tx == [] && t.b2b) = true := by decide
/-- VS1. -/
theorem test_finalize : okWith (exec .finalize { base with ackOwed := true })
    (fun t => t.tx == [0x5A, 0xA1] && !t.ackOwed && t.b2b && t.result == .ok) = true := by decide
/-- VS4. -/
theorem test_abort : okWith (exec .abort { base with ackOwed := true })
    (fun t => !t.ackOwed && t.abortOwed && t.tx == [] && !t.flt) = true := by decide
/-- VS7: a second `ABORT` faults. -/
theorem test_abort_faults : okWith (exec .abort { base with abortOwed := true })
    (fun t => t.flt && t.abortOwed && t.tx == []) = true := by decide
/-- VS8. -/
theorem test_maxpay : okWith (exec .maxpay State.reset) (fun t => t.retVal == 32 && t.result == .ok) = true := by
  decide
/-- VS16: `W_SEEK` drops noise. -/
theorem test_wSeek : okWith (exec .wSeek (fed [0x00, 0x5A] (inStage .wSeek)))
    (fun t => t.stage == .wSeek && t.rd == 1) = true := by decide
/-- VS10. -/
theorem test_wType_nak : okWith (exec .wType (fed [0xA2] { afterBuild with stage := .wType }))
    (fun t => t.tx == sentFrame && t.stage == .wSeek) = true := by decide
/-- VS12: a probe here is a protocol error. -/
theorem test_wType_probe : okWith (exec .wType (fed [0xA6] (inStage .wType)))
    (fun t => t.result == .protocolMismatch && t.tx == []) = true := by decide
/-- VX7, VX8. -/
theorem test_calls_refused : refusedWith (exec .finalize { base with flt := true }) .callNotAccepted = true ∧
    refusedWith (exec .maxpay (inStage .rPay)) .callNotAccepted = true := by decide

/-! ## Frames on the line, the step, reset -/

theorem test_frames_enqueue : okWith (runOps [.ack, .nak, .ackAbort] base)
    (fun t => t.wr == 6 && t.ring.get 5 == some 0xA3) = true := by decide
theorem test_ping_enqueues : okWith (exec .ping base) (fun t => ringContents t == [some 0x5A, some 0xA6]) = true := by
  decide
theorem test_command_enqueues : okWith (exec (.command 0x7CCC []) base)
    (fun t => ringContents t == [some 0x5A, some 0xA4, some 0x00, some 0x00, some 0xCC, some 0x7C]) = true := by decide
theorem test_data_enqueues : okWith (exec (.data 0xC920 [0x5A]) base)
    (fun t => t.wr == 7 && t.ring.get 4 == some 0x20) = true := by decide
theorem test_pingResponse_enqueues : okWith (exec (.pingResponse (ownRecord defaultProfile)) State.reset)
    (fun t => t.wr == 10 && t.ring.get 8 == some 0xAA) = true := by decide
/-- The first step after reset runs the placed word. -/
theorem test_withFetchWord : okWith (step (State.reset.withFetchWord 16 0x5AA2))
    (fun t => ringContents t == [some 0x5A, some 0xA2]) = true := by decide
/-- VI2: bytes wait in the ring; noise on the line is one `ENQ`. -/
theorem test_line_noise : okWith (step { base with sched := [.line [0x00, 0x5A, 0xA6]] })
    (fun t => ringContents t == [some 0x00] && t.sched == [.line [0x5A, 0xA6]]) = true := by decide
theorem test_internal_not_callable :
    refusedWith (step { base with sched := [.issue .discharge] }) .internalProcedure = true := by decide
theorem test_illFormed_operands (s : State) :
    fetchIssue (.write .cmd tooLong .none) s = .refuse .illFormedOperands := by
  have h : (Instr.write .cmd tooLong .none).wf s.cfg = false := by rw [Instr.wf, tooLong_length]; decide
  simp [fetchIssue, Instr.isInternal, h]
theorem test_device_reset : okWith (step { base with flt := true, wr := 3, tx := [0x5A], sched := [.reset] })
    (fun t => decide (t = base)) = true := by decide

/-! ## Witnesses: states and operands that meet the hypotheses of each obligation, at the boundaries of each clause -/

/-- The smallest ring and the largest buffers R7 admits. -/
def smallest : Config := { defaultProfile with cap := 2, rxCap := 65535, txCap := 65535 }

/-- A ring of the small configuration whose contents wrap from slot 7 to slot 0. -/
def wrapped (bs : List Byte) : State := fed bs { base with wr := 7, rd := 7 }

/-- The same ring in a stage. -/
def wrappedIn (st : Stage) (bs : List Byte) : State := { wrapped bs with stage := st }

theorem witness_ResetLeavesTheNamedValues : smallest.wf = true ∧ defaultProfile.wf = true := by decide

/-- The four clauses at their bounds, and a configuration that fails one. -/
theorem witness_Instantiation_wellFormed :
    ((1 ≤ 1 ∧ smallest.cap = 2 ^ 1) ∧ smallest.rxCap ≤ 65535 ∧ smallest.txCap ≤ 65535 ∧
      List.Pairwise (· ≠ ·) smallest.types ∧ smallest.rsvd = 0) := by decide
theorem witness_Instantiation_illFormed : ¬ ({ tiny with rxCap := 65536 } : Config).rxCap ≤ 65535 := by decide

theorem witness_EnqStoresAtWriteCursorAndAdvances :
    ({ base with wr := 7 } : State).cfg.wf = true ∧ ({ base with wr := 7 } : State).wr < tiny.cap := by decide

theorem witness_EmptyAndAvailReportOccupancy :
    CursorsOk { base with wr := 0, rd := 7 } ∧ CursorsOk { base with wr := 7, rd := 0 } ∧ CursorsOk base := by decide

theorem witness_EnqAppendsWhereNoOverflow :
    CursorsOk (wrapped [1, 2, 3, 4, 5, 6]) ∧ ringAvail (wrapped [1, 2, 3, 4, 5, 6]) < tiny.cap - 1 := by decide

theorem witness_DeqReturnsTheOldestByte : CursorsOk (wrapped [1, 2]) ∧ ClientFree (wrapped [1, 2]) ∧
    ringContents (wrapped [1, 2]) = some 1 :: [some 2] := by decide

/-- A transfer of three bytes that has one. -/
def reading : State := { base with rdx := some { want := 3, tmo := .bounded, got := [4] } }

/-- An empty ring: between calls, beside an `RDX` in progress, and in the seven reading stages. -/
theorem witness_EmptyRingHoldsEveryReader : base.rd = base.wr ∧ ClientFree base ∧ 1 ≤ 1 ∧
    (reading.rd = reading.wr ∧ InStage reading .idle ∧ reading.rdx = some { want := 3, tmo := .bounded, got := [4] } ∧
      ([4] : List Byte).length < 3) ∧
    ∀ st ∈ [Stage.rSeek, .rType, .rLen, .rCsum, .rPay, .wSeek, .wType],
      (inStage st).rd = (inStage st).wr ∧ InStage (inStage st) st := by decide

theorem witness_OverflowingEnqEmptiesTheRing :
    CursorsOk (wrapped [1, 2, 3, 4, 5, 6, 7]) ∧ ringAvail (wrapped [1, 2, 3, 4, 5, 6, 7]) = tiny.cap - 1 := by decide

theorem witness_BurstIntoEmptyRingKeepsTheNewest : CursorsOk (wrapped []) ∧ (wrapped []).rd = (wrapped []).wr := by decide

theorem witness_RdxTurnTakesOneByte : NextByte (wrapped [4]) 4 ∧ ClientFree (wrapped [4]) ∧ 1 ≤ 1 ∧ 1 ≤ 2 := by decide

/-- No byte wanted, and two bytes across the wrap. -/
theorem witness_RdxReturnsTheFirstBytesInOrder : CursorsOk (wrapped [4, 0, 9]) ∧ ClientFree (wrapped [4, 0, 9]) ∧
    ringContents (wrapped [4, 0, 9]) = [4, 0].map some ++ [some 9] ∧
    CursorsOk base ∧ ClientFree base ∧ ringContents base = ([] : List Byte).map some ++ [] := by decide

/-- Each bounded stage with its guard, and for each conjunct of the guard a state that fails it alone. -/
theorem witness_TimeoutDraw_enabled : ∀ st ∈ [Stage.rType, .rLen, .rCsum, .rPay, .wType],
    ({ inStage st with tmo := .bounded } : State).flt = false ∧
    ({ inStage st with tmo := .bounded } : State).cfg.timeoutImpl = true ∧ (inStage st).rd = (inStage st).wr := by decide
theorem witness_TimeoutDraw_notEnabled :
    ¬ (wrappedIn .rLen [1]).rd = (wrappedIn .rLen [1]).wr ∧ (wrappedIn .rLen [1]).rdx = none ∧
    ¬ (inStage .rLen).tmo = .bounded ∧ (inStage .rLen).rdx = none ∧ base.rdx = none ∧
    ¬ (base.stage = .rType ∨ base.stage = .rLen ∨ base.stage = .rCsum ∨ base.stage = .rPay ∨ base.stage = .wType) := by
  decide
/-- An `RDX` in progress whose own guard fails: at a byte in the ring, with `flt = 1`. -/
theorem witness_TimeoutDraw_transferNotEnabled :
    ¬ (fed [1] reading).rd = (fed [1] reading).wr ∧ (fed [1] reading).rdx = reading.rdx ∧
    ({ reading with flt := true } : State).flt = true := by decide

theorem witness_RdxTimeoutGivesNothingBack :
    InStage reading .idle ∧ reading.rdx = some { want := 3, tmo := .bounded, got := [4] } ∧
      reading.cfg.timeoutImpl = true ∧ reading.rd = reading.wr := by decide

/-- The reflected byte of the last clause. -/
theorem witness_CrcByteHasTheTableForm : ∀ i, i < 8 → (0x80 : Byte).getLsbD i = (0x01 : Byte).getLsbD (7 - i) := by decide

theorem witness_CrcSixteenIsLinearWithZeroResidue : ([0x12, 0x34] : List Byte).length = ([0xAB, 0xCD] : List Byte).length := by
  decide

/-- One bit of a one-byte message, and a burst of sixteen bits, 1 to 16, that straddles three bytes. -/
theorem witness_CrcSixteenDetectsEveryBurstOfAtMostSixteenBits :
    (([0x00] : List Byte).length = ([0x80] : List Byte).length ∧ ([0x00] : List Byte) ≠ [0x80] ∧
      ∀ j, messageBit [0x00] j ≠ messageBit [0x80] j → 0 ≤ j ∧ j < 0 + 16) ∧
    (([0x00, 0x00, 0x00] : List Byte).length = ([0x7F, 0xA5, 0x80] : List Byte).length ∧
      ([0x00, 0x00, 0x00] : List Byte) ≠ [0x7F, 0xA5, 0x80] ∧
      ∀ j, messageBit [0x00, 0x00, 0x00] j ≠ messageBit [0x7F, 0xA5, 0x80] j → 1 ≤ j ∧ j < 1 + 16) := by
  have past : ∀ (m : List Byte) j, m.length * 8 ≤ j → messageBit m j = false := fun m j h => by
    unfold messageBit
    rw [List.getD_eq_default _ _ (by omega)]; simp
  have one : ∀ j < 8, messageBit [0x00] j ≠ messageBit [0x80] j → 0 ≤ j ∧ j < 0 + 16 := by decide
  have three : ∀ j < 24, messageBit [0x00, 0x00, 0x00] j ≠ messageBit [0x7F, 0xA5, 0x80] j → 1 ≤ j ∧ j < 1 + 16 := by
    decide
  refine ⟨⟨rfl, by decide, fun j h => ?_⟩, rfl, by decide, fun j h => ?_⟩
  · by_cases hj : j < 8
    · exact one j hj h
    · rw [past [0x00] j (by simpa using hj), past [0x80] j (by simpa using hj)] at h; exact absurd rfl h
  · by_cases hj : j < 24
    · exact three j hj h
    · rw [past [0x00, 0x00, 0x00] j (by simpa using hj), past [0x7F, 0xA5, 0x80] j (by simpa using hj)] at h
      exact absurd rfl h

/-- Nothing owed, an ACK owed, an ACK-ABORT owed: for `READ`, `WRITE` and `FINALIZE`. -/
theorem witness_ReadAcceptanceStep : ClientFree base ∧ OwedOne base ∧ OwedOne { base with ackOwed := true } ∧
    ClientFree { base with ackOwed := true } ∧ ClientFree { base with abortOwed := true } ∧
    OwedOne { base with abortOwed := true } := by decide

theorem witness_BusyOrFaultedBlockRefusesClientCalls :
    ¬ ClientFree (inStage .rSeek) ∧ ¬ ClientFree { base with flt := true } ∧ ¬ ClientFree reading ∧
    ({ base with flt := true } : State).flt = true ∧ (inStage .rSeek).flt = false ∧ (inStage .rSeek).stage ≠ .idle ∧
    InStage reading .idle ∧ reading.rdx = some { want := 3, tmo := .bounded, got := [4] } ∧
    ¬ ((3 : Nat) = 2 ∧ TmoSel.bounded = .bounded) := by decide

/-- One byte too many, and exactly `TX_CAP` bytes. -/
theorem witness_WriteAcceptanceStep : base.cfg.wf = true ∧ ClientFree base ∧ OwedOne base ∧
    base.cfg.txCap < ([1, 2, 3, 4, 5] : List Byte).length ∧ ([1, 2, 3, 4] : List Byte).length ≤ base.cfg.txCap := by decide

theorem witness_FinalizeDischargesWhatIsOwed :
    ClientFree { base with abortOwed := true } ∧ OwedOne { base with abortOwed := true } := by decide

theorem witness_AbortConvertsAnOwedAckOrFaults : ClientFree { base with ackOwed := true } ∧
    ({ base with ackOwed := true } : State).ackOwed = true ∧ ClientFree base ∧ base.ackOwed = false := by decide

theorem witness_MaxpayReportsTheTransmitCapacity : (State.resetOf smallest).cfg.wf = true ∧
    ClientFree (State.resetOf smallest) := by decide

theorem witness_ReadSeekKeepsOnlyTheStartMarker : NextByte (wrappedIn .rSeek [0x5A]) 0x5A ∧
    InStage (wrappedIn .rSeek [0x5A]) .rSeek ∧ (0x5A : Byte) = tiny.sof ∧ NextByte (wrappedIn .rSeek [0x00]) 0x00 ∧
    InStage (wrappedIn .rSeek [0x00]) .rSeek ∧ (0x00 : Byte) ≠ tiny.sof := by decide

/-- An idle link, and each of the three flags. -/
theorem witness_ReadTypeAnswersAProbeOnAnIdleLink : NextByte (wrappedIn .rType [0xA6]) tiny.tPing ∧
    InStage (wrappedIn .rType [0xA6]) .rType ∧ NextByte { wrappedIn .rType [0xA6] with b2b := true } tiny.tPing ∧
    InStage { wrappedIn .rType [0xA6] with b2b := true } .rType ∧
    InStage { wrappedIn .rType [0xA6] with ackOwed := true } .rType ∧
    InStage { wrappedIn .rType [0xA6] with abortOwed := true } .rType := by decide

theorem witness_ReadTypeAcceptsOnlyTheExpectedClass : NextByte (wrappedIn .rType [0xA4]) 0xA4 ∧
    InStage (wrappedIn .rType [0xA4]) .rType ∧ (0xA4 : Byte) ≠ tiny.tPing ∧ (0xA4 : Byte) = classCode tiny .cmd ∧
    NextByte (wrappedIn .rType [0x5A]) 0x5A ∧ InStage (wrappedIn .rType [0x5A]) .rType ∧
    (0x5A : Byte) ≠ tiny.tPing ∧ (0x5A : Byte) ≠ classCode tiny .cmd := by decide

/-- The first byte, and a second byte that completes `0xFFFF`. -/
theorem witness_ReadLengthAssemblesAndClamps : NextByte (wrappedIn .rLen [0xFF]) 0xFF ∧
    InStage (wrappedIn .rLen [0xFF]) .rLen ∧ (wrappedIn .rLen [0xFF]).cnt = 0 ∧
    NextByte { wrappedIn .rLen [0xFF] with cnt := 1, lenWire := 0x00FF } 0xFF ∧
    InStage { wrappedIn .rLen [0xFF] with cnt := 1, lenWire := 0x00FF } .rLen ∧
    ({ wrappedIn .rLen [0xFF] with cnt := 1, lenWire := 0x00FF } : State).cnt ≠ 0 := by decide

theorem witness_ReadChecksumAssemblesAndZeroesTheBuffer : NextByte (wrappedIn .rCsum [0xED]) 0xED ∧
    InStage (wrappedIn .rCsum [0xED]) .rCsum ∧ (wrappedIn .rCsum [0xED]).cnt = 0 ∧
    NextByte { wrappedIn .rCsum [0xED] with cnt := 1 } 0xED ∧ InStage { wrappedIn .rCsum [0xED] with cnt := 1 } .rCsum ∧
    ({ wrappedIn .rCsum [0xED] with cnt := 1 } : State).cnt ≠ 0 := by decide

/-- The last payload byte, in the last byte of `RXBUF`, and one before it. -/
theorem witness_ReadPayloadStoresOneByte :
    let s : State := { wrappedIn .rPay [0x5A] with cnt := 3, lenEff := 4 }
    let u : State := { wrappedIn .rPay [0x5A] with cnt := 2, lenEff := 4 }
    NextByte s 0x5A ∧ InStage s .rPay ∧ s.cnt.toNat < s.cfg.rxCap ∧ s.cnt.toNat + 1 = s.lenEff.toNat ∧
    NextByte u 0x5A ∧ InStage u .rPay ∧ u.cnt.toNat < u.cfg.rxCap ∧ u.cnt.toNat + 1 ≠ u.lenEff.toNat := by decide

theorem witness_Verify_match : InStage atVerify .rVerify ∧ ([1, 2, 3, 4] : List Byte).length = atVerify.lenEff.toNat ∧
    ([1, 2, 3, 4] : List Byte).length ≤ atVerify.cfg.rxCap ∧
    (∀ i (h : i < ([1, 2, 3, 4] : List Byte).length), atVerify.rxbuf.get i = some ([1, 2, 3, 4] : List Byte)[i]) ∧
    crc16 ([atVerify.hdr0, atVerify.hdr1, atVerify.hdr2, atVerify.hdr3] ++ [1, 2, 3, 4]) = atVerify.csumRx := by
  decide +kernel
/-- An empty payload and a wrong checksum. -/
theorem witness_Verify_mismatch : InStage (inStage .rVerify) .rVerify ∧
    ([] : List Byte).length = (inStage .rVerify).lenEff.toNat ∧ ([] : List Byte).length ≤ (inStage .rVerify).cfg.rxCap ∧
    crc16 [0x5A, 0x00, 0x00, 0x00] ≠ ({ inStage .rVerify with hdr0 := 0x5A } : State).csumRx := by decide +kernel

theorem witness_WriteSeekKeepsOnlyTheStartMarker : NextByte (wrappedIn .wSeek [0x5A]) 0x5A ∧
    InStage (wrappedIn .wSeek [0x5A]) .wSeek ∧ (0x5A : Byte) = tiny.sof ∧ NextByte (wrappedIn .wSeek [0x00]) 0x00 ∧
    InStage (wrappedIn .wSeek [0x00]) .wSeek ∧ (0x00 : Byte) ≠ tiny.sof := by decide

/-- The four replies; the NAK with a retained frame. -/
theorem witness_WriteTypeEndsTheCallOrRetransmits :
    (∀ b ∈ [0xA1, 0xA2, 0xA3, 0xA6], NextByte (wrappedIn .wType [b]) b ∧ InStage (wrappedIn .wType [b]) .wType) ∧
    (0xA1 : Byte) = tiny.tAck ∧ (0xA2 : Byte) = tiny.tNak ∧ (0xA3 : Byte) = tiny.tAckAbort ∧
    (0xA6 : Byte) ∉ [tiny.tAck, tiny.tNak, tiny.tAckAbort] ∧
    NextByte (fed [0xA2] { afterBuild with stage := .wType }) 0xA2 ∧
    InStage (fed [0xA2] { afterBuild with stage := .wType }) .wType := by decide
/-- `TXBUF` holds the frame: the hypotheses on it of the NAK arm, of `SendTxbuf` and of the NAK loop. -/
theorem witness_SendTxbufRepeatsTheRetainedFrame : sentFrame.length = afterBuild.txLen ∧
    afterBuild.txLen ≤ afterBuild.cfg.txCap + 6 ∧
    (∀ i (h : i < sentFrame.length), afterBuild.txbuf.get i = some sentFrame[i]) := by decide

/-- A stage step in another stage, and one in its stage with `flt = 1`. -/
theorem witness_StageStepsNeedTheirStage : base.stage ≠ .rSeek ∧ ({ inStage .wType with flt := true } : State).flt = true := by
  decide

theorem witness_DischargeSendsWhatIsOwed : ({ base with ackOwed := true } : State).ackOwed = true ∧
    ({ base with abortOwed := true } : State).ackOwed = false ∧ ({ base with abortOwed := true } : State).abortOwed = true ∧
    base.ackOwed = false ∧ base.abortOwed = false := by decide

theorem witness_SyncAndResponseEmitters : (base.ackOwed = false ∧ base.abortOwed = false ∧ base.b2b = false) ∧
    ¬ ({ base with b2b := true } : State).b2b = false := by decide

theorem witness_BuildDataLaysOutTheFrame : ([] : List Byte).length ≤ tiny.txCap ∧
    ([1, 2, 3, 4] : List Byte).length ≤ tiny.txCap := by decide

theorem witness_FrameArrivalIsItsBytesEnqueued : ({ base with wr := 7 } : State).cfg.wf = true ∧
    ({ base with wr := 7 } : State).wr < tiny.cap := by decide

/-- A sync frame, a data frame and a response. -/
theorem witness_DecodeOfEncodeIsTheFrame : tiny.wf = true ∧ (Instr.nak).wf tiny = true ∧
    encode tiny .nak = some [0x5A, 0xA2] ∧ (Instr.data 0x47C5 [0x11]).wf tiny = true ∧
    encode tiny (.data 0x47C5 [0x11]) = some [0x5A, 0xA5, 0x01, 0x00, 0xC5, 0x47, 0x11] ∧
    (Instr.pingResponse (ownRecord tiny)).wf tiny = true ∧
    encode tiny (.pingResponse (ownRecord tiny)) = some [0x5A, 0xA7, 0x00, 0x02, 0x01, 0x50, 0x00, 0x00, 0xAA, 0xEA] := by
  decide

theorem witness_EncodeOfDecodeIsTheBytes :
    decode tiny [0x5A, 0xA4, 0x01, 0x00, 0x34, 0x12, 0x07, 0x5A] = .ok (.command 0x1234 [0x07], [0x5A]) := by decide

/-- A frame with bytes after it, and a frame that ends the burst. -/
theorem witness_StepRunsTheDecodedFrame :
    let s : State := { base with sched := [.line [0x5A, 0xA1, 0x00], .seq] }
    s.cfg.wf = true ∧ s.sched = .line [0x5A, 0xA1, 0x00] :: [.seq] ∧ decode s.cfg [0x5A, 0xA1, 0x00] = .ok (.ack, [0x00]) ∧
    decode s.cfg [0x5A, 0xA1] = .ok (.ack, []) := by decide

theorem witness_StepRunsTheScheduledOperation : base.cfg.wf = true ∧ (Instr.enq 7).isInternal = false ∧
    (Instr.enq 7).wf tiny = true ∧ Instr.isInternal .sendTxbuf = true ∧ InStage (inStage .rVerify) .rVerify ∧
    base.rdx = none ∧ base.stage = .idle ∧ InStage reading .idle ∧
    reading.rdx = some { want := 3, tmo := .bounded, got := [4] } ∧ ({ reading with flt := true } : State).flt = true ∧
    ({ base with sched := [.issue (.enq 7)] } : State).sched = .issue (.enq 7) :: [] ∧
    ({ base with sched := [.issue .sendTxbuf] } : State).sched = .issue .sendTxbuf :: [] ∧
    ({ inStage .rVerify with sched := [.seq] } : State).sched = .seq :: [] ∧ (inStage .rVerify).sched = [] := by decide

theorem witness_DeviceResetClearsTheBlock : ({ base with flt := true, sched := [.reset, .seq] } : State).cfg.wf = true ∧
    ({ base with flt := true, sched := [.reset, .seq] } : State).sched = .reset :: [.seq] := by decide

theorem witness_InvariantHoldsAtReset : tiny.wf = true := by decide

/-- The reset state meets the invariant. -/
theorem witness_Inv : Inv base where
  ring := ⟨by decide, by decide, by decide, by decide⟩
  buffers := ⟨by decide, by decide, by decide, by decide, by decide, by decide, by decide, by decide, by decide⟩
  sequencer := ⟨by decide, by decide, by decide, by decide, by decide, by decide, by decide, by decide, by decide,
    by decide, by decide⟩

/-- A received frame waits for its verify step, two bytes stand in the ring: the invariant inside a call. -/
def busy : State := fed [0x5A, 0xA1] atVerify

theorem witness_Inv_inCall : Inv busy where
  ring := ⟨by decide, by decide, by decide, by decide⟩
  buffers := ⟨by decide, by decide, by decide, by decide, by decide, by decide, by decide, by decide, by decide⟩
  sequencer := ⟨by decide, by decide, by decide, by decide, by decide, by decide, by decide, by decide, by decide,
    by decide, by decide⟩

/-- A faulted block goes on too: the harness loads the CRC engine. -/
theorem witness_ConfigurationFixedStreamGrowsFaultSticks :
    okWith (step { base with flt := true, sched := [.issue (.crcCfg 0x1021 7 false false 0)] })
      (fun t => t.flt && t.crcAcc == 7) = true := by decide

/-- A step from each of the two goes on: the hypotheses of the statements about `step s = .next t`. -/
theorem witness_EveryStepKeepsTheInvariant : okWith (step busy) (fun _ => true) = true ∧
    okWith (step base) (fun _ => true) = true := by decide +kernel

/-- An operation that moves `rd`, one that moves `wr`, one that emits, one that changes `result`, one that moves the
owed pair, one that moves `b2b`: the premises of the statements about `exec i s = .next t`. -/
theorem witness_EachCursorHasOneWriter : okWith (exec .deq (wrapped [1])) (fun t => t.rd != (wrapped [1]).rd) = true ∧
    encode tiny .deq = none := by decide
theorem witness_OnlyDischargingAndReplyingStepsEmit : Instr.isInternal .finalize = false ∧
    okWith (exec .finalize { base with ackOwed := true }) (fun t => t.tx != base.tx) = true := by decide
/-- The five values, each from another one. -/
theorem witness_EachResultHasItsCause : okWith (exec (.read .cmd .none .null) base) (fun t => t.result != base.result) = true ∧
    okWith (exec .timeout { inStage .rType with tmo := .bounded }) (fun t => t.result != base.result) = true ∧
    okWith (exec .rType (fed [0x5A] (inStage .rType))) (fun t => t.result != base.result) = true ∧
    okWith (exec .wType (fed [0xA3] (inStage .wType))) (fun t => t.result != base.result) = true ∧
    okWith (exec .maxpay { base with result := .abort }) (fun t => t.result != .abort) = true := by decide
theorem witness_OwedPairMovesOnlyAsTabled : OwedOne atVerify ∧ atVerify.ackOwed = false ∧ atVerify.abortOwed = false ∧
    okWith (exec .rVerify atVerify) (fun t => t.ackOwed) = true := by decide +kernel
theorem witness_BackToBackFlagMovesOnlyAsTabled : okWith (exec .finalize { base with ackOwed := true })
    (fun t => t.b2b != base.b2b) = true := by decide

/-- The ends of the range in which `ENQ` and `DEQ` commute: 1 byte and `CAP - 2` bytes. -/
theorem witness_EnqCommutesWhereItMust : CursorsOk (wrapped [1]) ∧ ClientFree (wrapped [1]) ∧
    sparesRing (.read .cmd .none .valid) = true ∧ 1 ≤ ringAvail (wrapped [1]) ∧ (wrapped [1]).ring.get (wrapped [1]).rd = some 1 ∧
    CursorsOk (wrapped [1, 2, 3, 4, 5, 6]) ∧ ClientFree (wrapped [1, 2, 3, 4, 5, 6]) ∧
    ringAvail (wrapped [1, 2, 3, 4, 5, 6]) ≤ tiny.cap - 2 ∧
    (wrapped [1, 2, 3, 4, 5, 6]).ring.get (wrapped [1, 2, 3, 4, 5, 6]).rd = some 1 := by decide

theorem witness_NakRetransmissionsRepeatTheSameFrame :
    let s : State := { afterBuild with stage := .wSeek }
    CursorsOk s ∧ 2 < s.cfg.cap ∧ s.rd = s.wr ∧ InStage s .wSeek ∧ sentFrame.length = s.txLen ∧ s.txLen ≤ s.cfg.txCap + 6 ∧
    (∀ i (h : i < sentFrame.length), s.txbuf.get i = some sentFrame[i]) := by decide

/-- The longest frame that fits a ring of 8: one payload byte. -/
theorem witness_BuiltFrameIsReceivedIntact :
    base.cfg.wf = true ∧ ([7] : List Byte).length ≤ base.cfg.txCap ∧ base.cfg.sof = (inStage .rSeek).cfg.sof ∧
    base.cfg.types = (inStage .rSeek).cfg.types ∧ CursorsOk (inStage .rSeek) ∧ (inStage .rSeek).rd = (inStage .rSeek).wr ∧
    InStage (inStage .rSeek) .rSeek ∧ (inStage .rSeek).exp = .cmd ∧ ([7] : List Byte).length ≤ (inStage .rSeek).cfg.rxCap ∧
    ([7] : List Byte).length + 6 < (inStage .rSeek).cfg.cap := by decide

theorem witness_CorruptedFrameGetsExactlyOneNak : CursorsOk (inStage .rSeek) ∧ (inStage .rSeek).rd = (inStage .rSeek).wr ∧
    InStage (inStage .rSeek) .rSeek ∧ (inStage .rSeek).exp = .cmd ∧ ([] : List Byte).length ≤ tiny.rxCap ∧
    ([] : List Byte).length + 6 < tiny.cap ∧ (0 : U16) ≠ crc16 (frameHeader tiny .cmd 0 ++ []) := by decide +kernel

theorem witness_ProbeInAReadIsAnsweredIffNotBackToBack : CursorsOk (inStage .rSeek) ∧ 2 < (inStage .rSeek).cfg.cap ∧
    (inStage .rSeek).rd = (inStage .rSeek).wr ∧ InStage (inStage .rSeek) .rSeek ∧ (inStage .rSeek).ackOwed = false ∧
    (inStage .rSeek).abortOwed = false ∧ CursorsOk { inStage .rSeek with b2b := true } := by decide

end Sys2Proof.Tests
end

section
/-! The ring's producer port and its two queries (spec/40_ring_buffer.md R111, R112): what `ENQ`, `EMPTY` and
`AVAIL` answer, and O3 and O4 from it. -/

namespace Sys2Proof.Machine

/-- R111 has no guard on `flt`, `stage` or the occupancy: a write cursor inside the ring is all that `ENQ` needs. -/
theorem exec_enq {s : State} (hwr : s.wr < s.cfg.cap) (b : Byte) : exec (.enq b) s = .next (enqueue s b) :=
  deliver_next.mpr ⟨hwr, rfl⟩

theorem exec_empty (s : State) : exec .empty s = .next { s with portRet := .flag (decide (s.rd = s.wr)) } := rfl

theorem exec_avail (s : State) : exec .avail s = .next { s with portRet := .count (ringAvail s) } := rfl

/-- The frame of R111: one byte moves the ring and its write cursor only. -/
theorem enqueue_frame (s : State) (b : Byte) :
    enqueue s b = { s with ring := (enqueue s b).ring, wr := (enqueue s b).wr } :=
  foldl_enqueue_frame [b] s

/-- Settles O3: the next state is `enqueue s b`, whose ring is one `put` at `wr`; under a well-formed configuration
the masked increment of R62 is the one modulo `CAP`. -/
theorem enqStoresAtWriteCursorAndAdvances : Obligations.EnqStoresAtWriteCursorAndAdvances := by
  intro s b hwf hwr
  refine ⟨enqueue s b, exec_enq hwr b, ?stored, ?otherSlots, ?advanced, enqueue_frame s b⟩
  case stored => exact Memory.get_put_same s.ring s.wr b
  case otherSlots => exact fun a ha => Memory.get_put_other s.ring s.wr a b ha
  case advanced => exact cursorNext_eq hwf s.wr

/-- Settles O4: the count is `ringAvail`, which for cursors in range is the difference without the mask and stays
below `CAP`. -/
theorem emptyAndAvailReportOccupancy : Obligations.EmptyAndAvailReportOccupancy := by
  intro s hcur
  exact ⟨exec_empty s, ringAvail s, exec_avail s, ringAvail_lt hcur, ringAvail_eq hcur⟩

end Sys2Proof.Machine
end

section
/-! The CRC port (spec/41_crc16.md R132 to R134): the effect of `CRC_ACC` and `CRC_FIN`, and O15 and O16 from it. -/

namespace Sys2Proof.Machine

theorem exec_crcAcc (bs : List Byte) (s : State) : exec (.crcAcc bs) s = .next (crcAccumulate bs s) := rfl

theorem exec_crcFin (s : State) : exec .crcFin s = .next { s with portRet := .word (crcValue s) } := rfl

/-- `CRC_ACC` is always enabled, so a run goes on after it. -/
theorem runOps_crcAcc_cons (bs : List Byte) (is : List Instr) (s : State) :
    runOps (.crcAcc bs :: is) s = runOps is (crcAccumulate bs s) := rfl

@[simp] theorem crcAccumulate_nil (s : State) : crcAccumulate [] s = s := rfl

/-- R132: the first byte goes through R133, the rest after it. -/
theorem crcAccumulate_cons (b : Byte) (bs : List Byte) (s : State) :
    crcAccumulate (b :: bs) s =
      crcAccumulate bs { s with crcAcc := crcByte s.crcPoly s.crcRefin s.crcAcc b } := rfl

/-- The frame of R132: any bytes move the accumulator only. -/
theorem crcAccumulate_frame (bs : List Byte) (s : State) :
    crcAccumulate bs s = { s with crcAcc := (crcAccumulate bs s).crcAcc } := rfl

/-- `reflect16` of R134, bit by bit. -/
theorem getLsbD_reverse_word (w : U16) {i : Nat} (hi : i < 16) : w.reverse.getLsbD i = w.getLsbD (15 - i) := by
  rw [BitVec.getLsbD_reverse, BitVec.getMsbD_eq_getLsbD, decide_eq_true hi, Bool.true_and]

/-- R134, bit by bit. -/
theorem getLsbD_crcValue (s : State) {i : Nat} (hi : i < 16) :
    (crcValue s).getLsbD i =
      ((if s.crcRefout then s.crcAcc.getLsbD (15 - i) else s.crcAcc.getLsbD i) ^^ s.crcXorout.getLsbD i) := by
  unfold crcValue
  rw [BitVec.getLsbD_xor]
  split
  next => rw [getLsbD_reverse_word _ hi]
  next => rfl

/-- Settles O15: `CRC_ACC` is a fold over its bytes, so it splits at every `++`. -/
theorem crcAccumulateFeedsBytesInOrder : Obligations.CrcAccumulateFeedsBytesInOrder := by
  intro s b u v
  refine ⟨?empty, ⟨crcAccumulate u s, exec_crcAcc u s, crcAccumulate_frame u s⟩, ?first, ?split⟩
  case empty => rw [exec_crcAcc, crcAccumulate_nil]
  case first => rw [exec_crcAcc, exec_crcAcc, crcAccumulate_cons]
  case split =>
    calc runOps [.crcAcc u, .crcAcc v] s
        = .next (crcAccumulate v (crcAccumulate u s)) := by
          rw [runOps_crcAcc_cons, runOps_crcAcc_cons, runOps]
      _ = exec (.crcAcc (u ++ v)) s := by rw [exec_crcAcc, crcAccumulate_append]

/-- Settles O16: the answer is `crcValue`, read bit by bit. -/
theorem crcFinishReturnsTheReflectedXoredAccumulator :
    Obligations.CrcFinishReturnsTheReflectedXoredAccumulator := by
  intro s
  exact ⟨crcValue s, exec_crcFin s, fun _ hi => getLsbD_crcValue s hi⟩

end Sys2Proof.Machine
end

section
/-! The decoder's probe and verify steps (spec/42_frame_decoder.md R154, R161 to R163): the byte a stage step
takes, the two arms of `Respond` and of verify, and O27 and O32 from them. -/

namespace Sys2Proof.Machine

/-- R113 in a reading stage: the step goes on with the byte at `rd`, and `rd` has moved by one modulo `CAP`. -/
theorem stageByte_of_nextByte {s : State} {b : Byte} {st : Stage} (hnext : NextByte s b) (hst : InStage s st)
    (k : Byte → State → Out) : stageByte st s k = k b { s with rd := (s.rd + 1) % s.cfg.cap } := by
  obtain ⟨hwf, hne, hlt, hbyte⟩ := hnext
  obtain ⟨hstage, hflt⟩ := hst
  have hadv : advanceRd s = { s with rd := (s.rd + 1) % s.cfg.cap } := by rw [advanceRd, cursorNext_eq hwf]
  rw [stageByte_of_byte hstage hflt hne hlt hbyte, hadv]

theorem atStage_of_inStage {s : State} {st : Stage} (hst : InStage s st) (k : Out) : atStage st s k = k :=
  if_pos hst

/-- R210 on an idle link: the response frame of the block's own record. -/
theorem respond_of_idle {s : State} (h : s.ackOwed = false ∧ s.abortOwed = false ∧ s.b2b = false) :
    respond s = { s with tx := s.tx ++ responseFrame s.cfg (ownRecord s.cfg) } :=
  if_pos (linkIdle_iff.mpr h)

/-- R210 on a link that is not idle: silence. -/
theorem respond_of_not_idle {s : State} (h : ¬ (s.ackOwed = false ∧ s.abortOwed = false ∧ s.b2b = false)) :
    respond s = s :=
  if_neg (mt linkIdle_iff.mp h)

/-- R154: a probe is consumed, answered as `Respond` decides, and the seek resumes. -/
theorem exec_rType_of_probe {s : State} (hnext : NextByte s s.cfg.tPing) (hst : InStage s .rType) :
    exec .rType s = .next { respond { s with rd := (s.rd + 1) % s.cfg.cap } with stage := .rSeek } :=
  (stageByte_of_nextByte hnext hst _).trans (if_pos rfl)

/-- Settles O27: the step is `Respond` after the dequeue, which leaves the three flags of R211 as they were. -/
theorem readTypeAnswersAProbeOnAnIdleLink : Obligations.ReadTypeAnswersAProbeOnAnIdleLink := by
  intro s hnext hst
  rw [exec_rType_of_probe hnext hst]
  constructor
  case left => intro hidle; rw [respond_of_idle]; exact hidle
  case right => intro hbusy; rw [respond_of_not_idle]; exact hbusy

/-- R161: verify runs on the `len_eff` bytes that stand at the start of `RXBUF`. -/
theorem exec_rVerify_of_payload {s : State} {p : List Byte} (hst : InStage s .rVerify)
    (hlen : p.length = s.lenEff.toNat) (hcap : p.length ≤ s.cfg.rxCap)
    (hbuf : ∀ i (h : i < p.length), s.rxbuf.get i = some p[i]) :
    exec .rVerify s = .next (verifyPayload p s) := by
  have hread : readBytes .rxbuf s.rxbuf s.cfg.rxCap 0 s.lenEff.toNat = .ok p :=
    readBytes_ok.mpr ⟨hlen, fun i hi => by
      rw [Nat.zero_add]
      exact ⟨Nat.lt_of_lt_of_le hi hcap, hbuf i hi⟩⟩
  change execRVerify s = _
  rw [execRVerify, atStage_of_inStage hst, hread]

/-- R162: a matching checksum owes an ACK and ends the call; nothing is emitted. -/
theorem verifyPayload_of_match {s : State} {p : List Byte}
    (h : crc16 ([s.hdr0, s.hdr1, s.hdr2, s.hdr3] ++ p) = s.csumRx) :
    verifyPayload p s = { s with
      crcAcc := crc16 ([s.hdr0, s.hdr1, s.hdr2, s.hdr3] ++ p), crcPoly := 0x1021, crcInit := 0
      crcRefin := false, crcRefout := false, crcXorout := 0
      ackOwed := true, rxLen := s.lenEff, result := .ok, stage := .idle } :=
  if_pos ((crcValue_crcRun _ s).trans h)

/-- R163: a differing checksum sends one NAK and seeks again; no result is written. -/
theorem verifyPayload_of_mismatch {s : State} {p : List Byte}
    (h : crc16 ([s.hdr0, s.hdr1, s.hdr2, s.hdr3] ++ p) ≠ s.csumRx) :
    verifyPayload p s = { s with
      crcAcc := crc16 ([s.hdr0, s.hdr1, s.hdr2, s.hdr3] ++ p), crcPoly := 0x1021, crcInit := 0
      crcRefin := false, crcRefout := false, crcXorout := 0
      tx := s.tx ++ [s.cfg.sof, s.cfg.tNak], b2b := true, stage := .rSeek } :=
  if_neg (by rwa [crcValue_crcRun])

/-- Settles O32: the payload in `RXBUF` is what verify reads, and the two arms of verify give the rest; on a match
the accumulator ends at the checksum received. -/
theorem verifyOwesAnAckOrSendsOneNak : Obligations.VerifyOwesAnAckOrSendsOneNak := by
  intro s p hst hlen hcap hbuf
  rw [exec_rVerify_of_payload hst hlen hcap hbuf]
  constructor
  case left => intro hmatch; rw [verifyPayload_of_match hmatch, hmatch]
  case right => intro hdiffer; rw [verifyPayload_of_mismatch hdiffer]

end Sys2Proof.Machine
end

section
/-! The encoder's serialisers (spec/43_frame_encoder.md R183, R184): the frame `BuildData` leaves in `TXBUF`, what
`SendTxbuf` sends of it, and O38 and O39 from them. -/

namespace Sys2Proof.Machine

/-- Three consecutive pieces, the middle one written last (R183 stores the checksum after the payload), read as their
concatenation; every other address reads as before. -/
theorem Memory.get_putAll_middle_last (m : Memory) (h g p : List Byte) (a : Nat) :
    (((m.putAll 0 h).putAll (h.length + g.length) p).putAll h.length g).get a =
      if a < h.length + g.length + p.length then (h ++ g ++ p)[a]? else m.get a := by
  simp only [Memory.get_putAll, List.getElem?_append, List.length_append]
  by_cases hhead : a < h.length
  case pos => simp [hhead, show ¬ h.length ≤ a by omega, show ¬ h.length + g.length ≤ a by omega,
    show a < h.length + g.length by omega, show a < h.length + g.length + p.length by omega]
  by_cases hmid : a < h.length + g.length
  case pos => simp [hhead, hmid, show h.length ≤ a by omega, show a < h.length + g.length + p.length by omega]
  by_cases htail : a < h.length + g.length + p.length
  case pos => simp [hmid, htail, show h.length + g.length ≤ a by omega]
  case neg => simp [hhead, hmid, htail]

/-- R183, R141: the three writes, header, payload, checksum; the checksum is `CRC16` of header and payload. -/
theorem storeFrame_txbuf (cls : FrameClass) (p : List Byte) (s : State) :
    (storeFrame cls p s).txbuf = ((s.txbuf.putAll 0 (frameHeader s.cfg cls p.length)).putAll 6 p).putAll 4
      (le16 (crc16 (frameHeader s.cfg cls p.length ++ p))) := by
  rw [← crcValue_crcRun _ s]; rfl

/-- R183: `TXBUF` holds the frame in wire order and, from its end on, what it held before: the header is four bytes,
the checksum two. -/
theorem storeFrame_txbuf_get (cls : FrameClass) (p : List Byte) (s : State) (a : Nat) :
    (storeFrame cls p s).txbuf.get a =
      if a < 6 + p.length then (builtFrame s.cfg cls p)[a]? else s.txbuf.get a := by
  rw [storeFrame_txbuf]
  exact Memory.get_putAll_middle_last s.txbuf (frameHeader s.cfg cls p.length)
    (le16 (crc16 (frameHeader s.cfg cls p.length ++ p))) p a

theorem exec_buildData {s : State} {p : List Byte} (hp : p.length ≤ s.cfg.txCap) (cls : FrameClass) :
    exec (.buildData cls p) s = .next (storeFrame cls p s) :=
  andThen_next.mpr ⟨_, buildData_ok.mpr ⟨hp, rfl⟩, rfl⟩

/-- Settles O38: the next state is `storeFrame`, whose `TXBUF` reads as the frame and whose CRC registers are those
of `crcRun`. -/
theorem buildDataLaysOutTheFrame : Obligations.BuildDataLaysOutTheFrame := by
  intro s cls p hp
  exact ⟨storeFrame cls p s, exec_buildData hp cls, storeFrame_txbuf_get cls p s, rfl⟩

/-- `TXBUF` holds the frame `f` in its first `tx_len` bytes, all of them inside the array: what R184 sends. -/
def Retains (s : State) (f : List Byte) : Prop :=
  f.length = s.txLen ∧ s.txLen ≤ s.cfg.txCap + 6 ∧ ∀ i (h : i < f.length), s.txbuf.get i = some f[i]

/-- R184: `SendTxbuf` appends the retained frame to `tx` and clears `b2b`, nothing else. -/
theorem exec_sendTxbuf {s : State} {f : List Byte} (hret : Retains s f) :
    exec .sendTxbuf s = .next { s with tx := s.tx ++ f, b2b := false } := by
  obtain ⟨hlen, hcap, hbuf⟩ := hret
  have hread : readBytes .txbuf s.txbuf (s.cfg.txCap + 6) 0 s.txLen = .ok f :=
    readBytes_ok.mpr ⟨hlen, fun i hi => by
      rw [Nat.zero_add]
      exact ⟨by omega, hbuf i hi⟩⟩
  exact andThen_next.mpr ⟨_, sendTxbuf_ok.mpr ⟨f, hread, rfl⟩, rfl⟩

/-- A run whose first operation goes on is the run of the rest from its next state. -/
theorem runOps_cons_of_next {i : Instr} {s t : State} (h : exec i s = .next t) (is : List Instr) :
    runOps (i :: is) s = runOps is t := by
  rw [runOps, h]

/-- Settles O39: `SendTxbuf` keeps `TXBUF` and `tx_len`, so its own next state retains `f` again. -/
theorem sendTxbufRepeatsTheRetainedFrame : Obligations.SendTxbufRepeatsTheRetainedFrame := by
  intro s f hlen hcap hbuf
  have hret : Retains s f := ⟨hlen, hcap, hbuf⟩
  have hagain : Retains { s with tx := s.tx ++ f, b2b := false } f := hret
  refine ⟨exec_sendTxbuf hret, ?twice⟩
  case twice =>
    rw [runOps_cons_of_next (exec_sendTxbuf hret), runOps_cons_of_next (exec_sendTxbuf hagain), runOps]

end Sys2Proof.Machine
end

section
/-! The session's discharge and its three client calls (spec/44_session.md R201, R205 to R207, R209): what `Discharge`
leaves in one equation, what each call does in a free block, and O36, O23, O24 and O25 from them. -/

namespace Sys2Proof.Machine

/-- R96, R201: the procedure run alone has its effect and no guard. -/
theorem exec_discharge (s : State) : exec .discharge s = .next (discharge s) := rfl

/-- Settles O36: the three arms of R201, the two sync frames written out as bytes. -/
theorem dischargeSendsWhatIsOwed : Obligations.DischargeSendsWhatIsOwed := by
  intro s
  rw [exec_discharge]
  refine ⟨?ackOwed, ?abortOwed, ?nothingOwed⟩
  case ackOwed => intro hack; rw [discharge_of_ack hack]; rfl
  case abortOwed => intro hack habort; rw [discharge_of_abort hack habort]; rfl
  case nothingOwed => intro hack habort; rw [discharge_of_none hack habort]

/-- The frame of R201: a discharge moves `tx`, the owed flags and `b2b` only. -/
theorem discharge_frame (s : State) :
    discharge s = { s with
      tx := (discharge s).tx, ackOwed := (discharge s).ackOwed
      abortOwed := (discharge s).abortOwed, b2b := (discharge s).b2b } := by
  cases hack : s.ackOwed with
  | true => rw [discharge_of_ack hack]
  | false =>
    cases habort : s.abortOwed with
    | true => rw [discharge_of_abort hack habort]
    | false => rw [discharge_of_none hack habort]

/-- R201 under R36, all arms at once: what is owed goes out and nothing is owed after. -/
theorem discharge_of_owedOne {s : State} (howed : OwedOne s) :
    discharge s = { s with
      tx := s.tx ++ owedBytes s, ackOwed := false, abortOwed := false
      b2b := s.b2b || s.ackOwed || s.abortOwed } := by
  obtain ⟨hack, habort⟩ := discharge_owed howed
  calc discharge s
      = { s with
          tx := (discharge s).tx, ackOwed := (discharge s).ackOwed
          abortOwed := (discharge s).abortOwed, b2b := (discharge s).b2b } := discharge_frame s
    _ = _ := by rw [discharge_tx, hack, habort, discharge_b2b]

/-- R42: a free block accepts the call. -/
theorem clientCall_of_free {s : State} (hfree : ClientFree s) (k : Out) : clientCall s k = k :=
  if_pos (clientMayCall_iff.mpr hfree)

theorem exec_finalize {s : State} (hfree : ClientFree s) :
    exec .finalize s = .next { discharge s with result := .ok } :=
  clientCall_of_free hfree _

/-- R206. -/
theorem exec_abort_of_ack {s : State} (hfree : ClientFree s) (hack : s.ackOwed = true) :
    exec .abort s = .next { s with ackOwed := false, abortOwed := true, result := .ok } :=
  (clientCall_of_free hfree _).trans (if_pos hack)

/-- R207. -/
theorem exec_abort_of_no_ack {s : State} (hfree : ClientFree s) (hack : s.ackOwed = false) :
    exec .abort s = .next { s with flt := true } :=
  (clientCall_of_free hfree _).trans (if_neg (Bool.eq_false_iff.mp hack))

theorem exec_maxpay {s : State} (hfree : ClientFree s) :
    exec .maxpay s = .next { s with retVal := BitVec.ofNat 16 s.cfg.txCap, result := .ok } :=
  clientCall_of_free hfree _

/-- Settles O23: the accepted call is one discharge and the result. -/
theorem finalizeDischargesWhatIsOwed : Obligations.FinalizeDischargesWhatIsOwed := by
  intro s hfree howed
  rw [exec_finalize hfree, discharge_of_owedOne howed]

/-- Settles O24: `ABORT` leaves the block free with only the ACK-ABORT owed, so the `FINALIZE` after it is accepted
and takes that arm of R201. -/
theorem abortConvertsAnOwedAckOrFaults : Obligations.AbortConvertsAnOwedAckOrFaults := by
  intro s hfree
  refine ⟨exec_abort_of_ack hfree, ?discharged, exec_abort_of_no_ack hfree⟩
  case discharged =>
    intro hack
    have hfreeAfter : ClientFree { s with ackOwed := false, abortOwed := true, result := .ok } := hfree
    rw [runOps_cons_of_next (exec_abort_of_ack hfree hack), runOps_cons_of_next (exec_finalize hfreeAfter),
      discharge_of_abort rfl rfl]
    rfl

/-- Settles O25: R7 bounds `TX_CAP` by 65535, so the 16-bit `ret_val` holds it without loss. -/
theorem maxpayReportsTheTransmitCapacity : Obligations.MaxpayReportsTheTransmitCapacity := by
  intro s hwf hfree
  have hcap : s.cfg.txCap < 2 ^ 16 := Nat.lt_succ_of_le (Config.wf_txCap hwf)
  exact ⟨_, exec_maxpay hfree, (BitVec.toNat_ofNat _ _).trans (Nat.mod_eq_of_lt hcap), rfl⟩

end Sys2Proof.Machine
end

section
/-! The reset state (spec/70_reset_and_hazards.md R260, with the values of spec/10_state.md R50): an empty ring, a
final state, and O1 from them. -/

namespace Sys2Proof.Machine

/-- A well-formed ring holds at least two bytes, so both cursors at 0 are inside it. -/
theorem cursorsOk_resetOf {c : Config} (hwf : c.wf = true) : CursorsOk (State.resetOf c) := by
  have hpos : 0 < c.cap := Nat.zero_lt_of_lt (Config.wf_cap_ge hwf)
  exact ⟨hwf, hpos, hpos⟩

/-- R260's "ring empty": equal cursors report no byte. -/
theorem ringAvail_resetOf {c : Config} (hwf : c.wf = true) : ringAvail (State.resetOf c) = 0 :=
  (ringAvail_eq_zero (cursorsOk_resetOf hwf)).mpr rfl

/-- R275 of the reset state. -/
theorem isFinal_resetOf (c : Config) : isFinal (State.resetOf c) := ⟨rfl, rfl⟩

/-- Settles O1: the registers with a value in R50 are fields of `State.resetOf`; that the ring reports no byte needs
R7, which puts the cursors inside it. -/
theorem resetLeavesTheNamedValues : Obligations.ResetLeavesTheNamedValues := by
  intro c hwf
  exact ⟨State.resetOf c, rfl, rfl, rfl, rfl, rfl, rfl, rfl, rfl, rfl, rfl, rfl, rfl, rfl, rfl, rfl,
    ringAvail_resetOf hwf, isFinal_resetOf c⟩

end Sys2Proof.Machine
end

section
/-! The wire decoder against the encoder (spec/30_encoding.md R80 to R90): the data tail, the record and the type
dispatch read back what the layouts write, and nothing else; O41, O42 and O43 from them. -/

namespace Sys2Proof

/-- R84: a length that fits the 16-bit field is read back as it is. -/
theorem lengthField_toNat {n : Nat} (h : n ≤ 65535) : (BitVec.ofNat 16 n).toNat = n := by
  rw [BitVec.toNat_ofNat]
  exact Nat.mod_eq_of_lt (by omega)

/-- R83, R84: a data tail decodes exactly when it is a length field, a checksum field and that many payload bytes. -/
theorem decodeDataTail_ok {l : List Byte} {k : U16} {p more : List Byte} :
    decodeDataTail l = .ok (k, p, more) ↔
      p.length ≤ 65535 ∧ l = le16 (BitVec.ofNat 16 p.length) ++ le16 k ++ p ++ more := by
  constructor
  case mp =>
    intro h
    unfold decodeDataTail at h
    split at h
    next l0 l1 k0 k1 body =>
      simp only at h
      split at h
      next hfits =>
        cases h
        have hbound := (joinBytes l1 l0).isLt
        have hlen : (body.take (joinBytes l1 l0).toNat).length = (joinBytes l1 l0).toNat := by
          rw [List.length_take, Nat.min_eq_left hfits]
        refine ⟨by omega, ?_⟩
        rw [hlen, BitVec.ofNat_toNat, BitVec.setWidth_eq]
        simp [le16]
      next => cases h
    next => cases h
  case mpr =>
    rintro ⟨hp, rfl⟩
    simp [decodeDataTail, le16, lengthField_toNat hp]

/-- R86: ten bytes with any record decode to that record. -/
theorem decodeRecord_ok {l : List Byte} {r : HandshakeRecord} {more : List Byte} :
    decodeRecord l = .ok (r, more) ↔ l = recordBytes r ++ more := by
  constructor
  case mp =>
    intro h
    unfold decodeRecord at h
    split at h
    next => cases h; simp [recordBytes, le16]
    next => cases h
  case mpr => rintro rfl; simp [decodeRecord, recordBytes, le16]

theorem decode_sof_cons (c : Config) (t : Byte) (rest : List Byte) :
    decode c (c.sof :: t :: rest) = decodeBody c t rest := if_pos rfl

/-- R81: what decodes begins with the start marker and a type byte. -/
theorem decode_ok {c : Config} {bs : List Byte} {r : Instr × List Byte} (h : decode c bs = .ok r) :
    ∃ t rest, bs = c.sof :: t :: rest ∧ decodeBody c t rest = .ok r := by
  unfold decode at h
  split at h
  next => cases h
  next => split at h <;> cases h
  next b t rest =>
    split at h
    next hb => exact ⟨t, rest, by rw [hb], h⟩
    next => cases h

theorem encode_command (c : Config) (k : U16) (p : List Byte) : encode c (.command k p) =
    some (c.sof :: c.tCmd :: (le16 (BitVec.ofNat 16 p.length) ++ le16 k ++ p)) := rfl

theorem encode_data (c : Config) (k : U16) (p : List Byte) : encode c (.data k p) =
    some (c.sof :: c.tData :: (le16 (BitVec.ofNat 16 p.length) ++ le16 k ++ p)) := rfl

theorem encode_pingResponse (c : Config) (r : HandshakeRecord) : encode c (.pingResponse r) =
    some (c.sof :: c.tPingResp :: recordBytes r) := rfl

/-- R87, R88: the body decodes only under one of the seven codes, to that code's frame. -/
theorem decodeBody_ok {c : Config} {t : Byte} {rest more : List Byte} {i : Instr}
    (h : decodeBody c t rest = .ok (i, more)) :
    i.wf c = true ∧ ∃ e, encode c i = some (c.sof :: t :: e) ∧ rest = e ++ more := by
  unfold decodeBody at h
  split at h
  next ht => cases h; subst ht; exact ⟨rfl, [], rfl, rfl⟩
  split at h
  next ht => cases h; subst ht; exact ⟨rfl, [], rfl, rfl⟩
  split at h
  next ht => cases h; subst ht; exact ⟨rfl, [], rfl, rfl⟩
  split at h
  next ht =>
    split at h
    next htail =>
      cases h; subst ht
      obtain ⟨hp, hrest⟩ := decodeDataTail_ok.1 htail
      exact ⟨decide_eq_true hp, _, encode_command .., hrest⟩
    next => cases h
  split at h
  next ht =>
    split at h
    next htail =>
      cases h; subst ht
      obtain ⟨hp, hrest⟩ := decodeDataTail_ok.1 htail
      exact ⟨decide_eq_true hp, _, encode_data .., hrest⟩
    next => cases h
  split at h
  next ht => cases h; subst ht; exact ⟨rfl, [], rfl, rfl⟩
  split at h
  next ht =>
    split at h
    next hrec => cases h; subst ht; exact ⟨rfl, _, encode_pingResponse .., decodeRecord_ok.1 hrec⟩
    next => cases h
  next => cases h

/-- R7 clause 3: with seven different codes each code selects its own row of R87. -/
theorem decodeBody_of_code {c : Config} (hwf : c.wf = true) (rest : List Byte) :
    decodeBody c c.tAck rest = .ok (.ack, rest) ∧ decodeBody c c.tNak rest = .ok (.nak, rest) ∧
    decodeBody c c.tAckAbort rest = .ok (.ackAbort, rest) ∧ decodeBody c c.tPing rest = .ok (.ping, rest) ∧
    (∀ k p more, decodeDataTail rest = .ok (k, p, more) →
      decodeBody c c.tCmd rest = .ok (.command k p, more) ∧ decodeBody c c.tData rest = .ok (.data k p, more)) ∧
    (∀ r more, decodeRecord rest = .ok (r, more) →
      decodeBody c c.tPingResp rest = .ok (.pingResponse r, more)) := by
  obtain ⟨-, -, -, hnodup, -⟩ := c.wf_iff.1 hwf
  simp only [Config.types, List.nodup_cons, List.mem_cons, List.not_mem_nil, not_or] at hnodup
  refine ⟨?ack, ?nak, ?ackAbort, ?ping, fun k p more htail => ?dataLayout, fun r more hrec => ?response⟩
  all_goals grind [decodeBody]

/-- Settles O41: the start marker leads to the type dispatch, the seven different codes to the row that was encoded,
and the tail readers give its operands back. -/
theorem decodeOfEncodeIsTheFrame : Obligations.DecodeOfEncodeIsTheFrame := by
  intro c i bs rest hwf hi he
  obtain ⟨hack, hnak, hackAbort, hping, -⟩ := decodeBody_of_code hwf rest
  have hdata : ∀ k p, p.length ≤ 65535 →
      decodeDataTail (le16 (BitVec.ofNat 16 p.length) ++ le16 k ++ p ++ rest) = .ok (k, p, rest) :=
    fun k p hp => decodeDataTail_ok.2 ⟨hp, rfl⟩
  cases i
  case ack => cases he; exact (decode_sof_cons ..).trans hack
  case nak => cases he; exact (decode_sof_cons ..).trans hnak
  case ackAbort => cases he; exact (decode_sof_cons ..).trans hackAbort
  case ping => cases he; exact (decode_sof_cons ..).trans hping
  case command k p =>
    cases he
    obtain ⟨-, -, -, -, hrows, -⟩ := decodeBody_of_code hwf _
    exact (decode_sof_cons ..).trans (hrows k p rest (hdata k p (of_decide_eq_true hi))).1
  case data k p =>
    cases he
    obtain ⟨-, -, -, -, hrows, -⟩ := decodeBody_of_code hwf _
    exact (decode_sof_cons ..).trans (hrows k p rest (hdata k p (of_decide_eq_true hi))).2
  case pingResponse r =>
    cases he
    obtain ⟨-, -, -, -, -, hresp⟩ := decodeBody_of_code hwf _
    exact (decode_sof_cons ..).trans (hresp r rest (decodeRecord_ok.2 rfl))
  all_goals cases he

/-- Settles O42: the header bytes are put back in front of what the body's reader took. -/
theorem encodeOfDecodeIsTheBytes : Obligations.EncodeOfDecodeIsTheBytes := by
  intro c i bs rest h
  obtain ⟨t, body, rfl, hbody⟩ := decode_ok h
  obtain ⟨hi, e, he, rfl⟩ := decodeBody_ok hbody
  exact ⟨_, he, rfl, hi⟩

/-- Settles O43: closed words, so the decoder is run on them. -/
theorem sampleWordsDecode : Obligations.SampleWordsDecode := by
  unfold Obligations.SampleWordsDecode
  decide

end Sys2Proof
end

section
/-! The step and its schedule (spec/00_scope.md R9, R13; log 6): what `step` does with each event, what it can do at
all, and O44 to O46 from it. -/

namespace Sys2Proof.Machine

theorem step_of_run {s t : State} {i : Instr} (hwf : s.cfg.wf = true) (h : fetch s = .run i t) : step s = exec i t := by
  rw [step, if_pos hwf, h]

theorem step_of_pass {s t : State} (hwf : s.cfg.wf = true) (h : fetch s = .pass t) : step s = .next t := by
  rw [step, if_pos hwf, h]

theorem step_of_refuse {s : State} {r : Refusal} (hwf : s.cfg.wf = true) (h : fetch s = .refuse r) :
    step s = .refused r := by
  rw [step, if_pos hwf, h]

theorem fetch_of_nil {s : State} (h : s.sched = []) : fetch s = fetchSequencer s := by
  rw [fetch, h]

theorem fetch_of_seq {s : State} {later : List Event} (h : s.sched = .seq :: later) :
    fetch s = fetchSequencer { s with sched := later } := by
  rw [fetch, h]

theorem fetch_of_issue {s : State} {i : Instr} {later : List Event} (h : s.sched = .issue i :: later) :
    fetch s = fetchIssue i { s with sched := later } := by
  rw [fetch, h]

theorem fetch_of_reset {s : State} {later : List Event} (h : s.sched = .reset :: later) :
    fetch s = .pass { State.resetOf s.cfg with sched := later } := by
  rw [fetch, h]

theorem fetch_of_empty_line {s : State} {later : List Event} (h : s.sched = .line [] :: later) :
    fetch s = .pass { s with sched := later } := by
  rw [fetch, h]

theorem fetch_of_line {s : State} {b : Byte} {bs : List Byte} {later : List Event}
    (h : s.sched = .line (b :: bs) :: later) : fetch s =
      .run (nextOnLine s.cfg b bs).1 { s with sched := restOfLine (nextOnLine s.cfg b bs).2 later } := by
  rw [fetch, h]

theorem restOfLine_eq (bs : List Byte) (later : List Event) :
    restOfLine bs later = if bs = [] then later else .line bs :: later := by
  cases bs <;> rfl

theorem nextOnLine_of_decode {c : Config} {b : Byte} {bs : List Byte} {r : Instr × List Byte}
    (h : decode c (b :: bs) = .ok r) : nextOnLine c b bs = r := by
  rw [nextOnLine, h]

/-- Settles O44: what decodes is not empty, so the line's head is the decoded frame. -/
theorem stepRunsTheDecodedFrame : Obligations.StepRunsTheDecodedFrame := by
  intro s i bs more later hwf hsched hdec
  obtain ⟨t, body, rfl, -⟩ := decode_ok hdec
  rw [step_of_run hwf (fetch_of_line hsched), nextOnLine_of_decode hdec, restOfLine_eq]

/-- R26, R38: without a fault a stage with a step of its own gives that step. -/
theorem fetchSequencer_of_stage {s : State} {st : Stage} {i : Instr} (hst : InStage s st) (hi : st.instr = some i) :
    fetchSequencer s = .run i s := by
  obtain ⟨hstage, hflt⟩ := hst
  simp [fetchSequencer, sequencerInstr, hflt, hstage, hi]

/-- R116: between calls the sequencer's turn is the transfer's. -/
theorem fetchSequencer_of_rdx {s : State} {x : RdxTransfer} (hst : InStage s .idle) (hx : s.rdx = some x) :
    fetchSequencer s = .run (.rdx x.want x.tmo) s := by
  obtain ⟨hstage, hflt⟩ := hst
  simp [fetchSequencer, sequencerInstr, hflt, hstage, hx, Stage.instr]

/-- R14, R38: idle with no transfer, or faulted, the sequencer has no step. -/
theorem fetchSequencer_of_nothing {s : State} (h : (s.stage = .idle ∧ s.rdx = none) ∨ s.flt = true) :
    fetchSequencer s = .pass s := by
  rcases h with ⟨hstage, hrdx⟩ | hflt
  case inl => simp [fetchSequencer, sequencerInstr, hstage, hrdx, Stage.instr]
  case inr => simp [fetchSequencer, sequencerInstr, hflt]

theorem fetchIssue_of_internal {i : Instr} (hi : i.isInternal = true) (s : State) :
    fetchIssue i s = .refuse .internalProcedure := if_pos hi

theorem fetchIssue_of_port {i : Instr} {s : State} (hi : i.isInternal = false) (hw : i.wf s.cfg = true) :
    fetchIssue i s = .run i s := by
  simp [fetchIssue, hi, hw]

/-- The eight stage steps stand in their own stage's row. -/
theorem stage_instr_of_mem {p : Stage × Instr}
    (hp : p ∈ [(Stage.rSeek, Instr.rSeek), (.rType, .rType), (.rLen, .rLen), (.rCsum, .rCsum), (.rPay, .rPay),
      (.rVerify, .rVerify), (.wSeek, .wSeek), (.wType, .wType)]) : p.1.instr = some p.2 := by
  simp only [List.mem_cons, List.not_mem_nil, or_false] at hp
  rcases hp with rfl | rfl | rfl | rfl | rfl | rfl | rfl | rfl <;> rfl

/-- Settles O45: the event at the head decides, and for the sequencer its stage, its fault bit and the transfer. -/
theorem stepRunsTheScheduledOperation : Obligations.StepRunsTheScheduledOperation := by
  intro s later hwf
  refine ⟨?port, ?internal, ?stage, ?transfer, ?nothing⟩
  case port => exact fun i hs hi hw => step_of_run hwf ((fetch_of_issue hs).trans (fetchIssue_of_port hi hw))
  case internal => exact fun i hs hi => step_of_refuse hwf ((fetch_of_issue hs).trans (fetchIssue_of_internal hi _))
  case stage =>
    intro p hp hst
    have hi := stage_instr_of_mem hp
    exact ⟨fun hs => step_of_run hwf ((fetch_of_seq hs).trans (fetchSequencer_of_stage hst hi)),
      fun hs => step_of_run hwf ((fetch_of_nil hs).trans (fetchSequencer_of_stage hst hi))⟩
  case transfer =>
    intro x hst hx
    exact ⟨fun hs => step_of_run hwf ((fetch_of_seq hs).trans (fetchSequencer_of_rdx hst hx)),
      fun hs => step_of_run hwf ((fetch_of_nil hs).trans (fetchSequencer_of_rdx hst hx))⟩
  case nothing =>
    intro h
    exact ⟨fun hs => step_of_pass hwf ((fetch_of_seq hs).trans (fetchSequencer_of_nothing h)),
      fun hs => step_of_pass hwf ((fetch_of_nil hs).trans (fetchSequencer_of_nothing h))⟩

/-- Settles O46: the event passes the reset state of the same configuration on. -/
theorem deviceResetClearsTheBlock : Obligations.DeviceResetClearsTheBlock := by
  intro s later hwf hs
  exact ⟨_, step_of_pass hwf (fetch_of_reset hs), rfl, rfl, rfl, rfl⟩

/-- R26: only the idle stage has no step. -/
theorem Stage.instr_eq_none {st : Stage} (h : st.instr = none) : st = .idle := by
  cases st with
  | idle => rfl
  | _ => cases h

/-- R96: a stage's step is no internal procedure. -/
theorem Stage.isInternal_of_instr {st : Stage} {i : Instr} (h : st.instr = some i) : i.isInternal = false := by
  cases st with
  | idle => cases h
  | _ => cases h; rfl

/-- What the sequencer is given: a stage step or a transfer's turn, or nothing. -/
theorem fetchSequencer_cases (s : State) :
    fetchSequencer s = .pass s ∨ ∃ i, i.isInternal = false ∧ fetchSequencer s = .run i s := by
  by_cases hflt : s.flt = true
  case pos => exact .inl (fetchSequencer_of_nothing (.inr hflt))
  have hno : s.flt = false := Bool.eq_false_iff.mpr hflt
  cases hi : s.stage.instr with
  | some i => exact .inr ⟨i, Stage.isInternal_of_instr hi, fetchSequencer_of_stage ⟨rfl, hno⟩ hi⟩
  | none =>
    have hidle : s.stage = .idle := Stage.instr_eq_none hi
    cases hx : s.rdx with
    | none => exact .inl (fetchSequencer_of_nothing (.inl ⟨hidle, hx⟩))
    | some x => exact .inr ⟨_, rfl, fetchSequencer_of_rdx ⟨hidle, hno⟩ hx⟩

/-- N14, R96: what has an encoding is a frame, never an internal procedure. -/
theorem isInternal_of_encode {c : Config} {i : Instr} {e : List Byte} (h : encode c i = some e) :
    i.isInternal = false := by
  cases i with
  | discharge | respond | syncEmit | buildData | sendTxbuf | respEmit => cases h
  | _ => rfl

/-- What the line gives is a frame or an `ENQ`. -/
theorem nextOnLine_isInternal (c : Config) (b : Byte) (bs : List Byte) :
    (nextOnLine c b bs).1.isInternal = false := by
  unfold nextOnLine
  split
  next r h =>
    obtain ⟨e, he, -⟩ := encodeOfDecodeIsTheBytes c r.1 (b :: bs) r.2 h
    exact isInternal_of_encode he
  next => rfl

/-- Everything a step can be: a move of the schedule alone, a device reset, a refusal, or one operation that is no
internal procedure, run in a state that differs in the schedule only. -/
theorem step_cases (s : State) :
    (∃ later, step s = .next { s with sched := later }) ∨
    (∃ later, s.sched = .reset :: later ∧ s.cfg.wf = true ∧ step s = .next { State.resetOf s.cfg with sched := later }) ∨
    (∃ r, step s = .refused r) ∨
    ∃ i later, i.isInternal = false ∧ step s = exec i { s with sched := later } := by
  by_cases hwf : s.cfg.wf = true
  case neg => exact .inr (.inr (.inl ⟨.illFormedConfig, if_neg hwf⟩))
  have sequencer : ∀ later, fetch s = fetchSequencer { s with sched := later } →
      (∃ later, step s = .next { s with sched := later }) ∨
        ∃ i later, i.isInternal = false ∧ step s = exec i { s with sched := later } := by
    intro later hf
    rcases fetchSequencer_cases { s with sched := later } with hseq | ⟨i, hi, hseq⟩
    · exact .inl ⟨later, step_of_pass hwf (hf.trans hseq)⟩
    · exact .inr ⟨i, later, hi, step_of_run hwf (hf.trans hseq)⟩
  match hs : s.sched with
  | [] =>
    have hself : { s with sched := [] } = s := by rw [← hs]
    rcases sequencer [] (by rw [hself]; exact fetch_of_nil hs) with h | h
    · exact .inl h
    · exact .inr (.inr (.inr h))
  | .seq :: later =>
    rcases sequencer later (fetch_of_seq hs) with h | h
    · exact .inl h
    · exact .inr (.inr (.inr h))
  | .issue i :: later =>
    by_cases hi : i.isInternal = true
    case pos => exact .inr (.inr (.inl ⟨_, step_of_refuse hwf ((fetch_of_issue hs).trans (fetchIssue_of_internal hi _))⟩))
    have hport : i.isInternal = false := Bool.eq_false_iff.mpr hi
    by_cases hw : i.wf s.cfg = true
    case pos =>
      exact .inr (.inr (.inr ⟨i, later, hport, step_of_run hwf ((fetch_of_issue hs).trans (fetchIssue_of_port hport hw))⟩))
    case neg =>
      have hfetch : fetchIssue i { s with sched := later } = .refuse .illFormedOperands := by
        simp [fetchIssue, hport, hw]
      exact .inr (.inr (.inl ⟨_, step_of_refuse hwf ((fetch_of_issue hs).trans hfetch)⟩))
  | .line [] :: later => exact .inl ⟨later, step_of_pass hwf (fetch_of_empty_line hs)⟩
  | .line (b :: bs) :: later =>
    exact .inr (.inr (.inr ⟨_, _, nextOnLine_isInternal s.cfg b bs, step_of_run hwf (fetch_of_line hs)⟩))
  | .reset :: later => exact .inr (.inl ⟨later, rfl, hwf, step_of_pass hwf (fetch_of_reset hs)⟩)

end Sys2Proof.Machine
end

section
/-! What each operation can do, all of them in one relation: if `exec i s` answers a next state, that state is one of
the listed ones. Every invariant and every table of the spec is then a case analysis over this relation. -/

namespace Sys2Proof.Machine

/-- The next states of one operation, each written as the old state with the changed fields only. -/
inductive Effect (s : State) : Instr → State → Prop
  /-- The producer (R111). -/
  | enq (b : Byte) (hwr : s.wr < s.cfg.cap) : Effect s (.enq b) (enqueue s b)
  /-- A frame's arrival (R95). -/
  | frame {i : Instr} {bs : List Byte} (hi : encode s.cfg i = some bs) (hwr : s.wr < s.cfg.cap) :
      Effect s i { s with ring := (bs.foldl enqueue s).ring, wr := (bs.foldl enqueue s).wr }
  /-- A port that only answers (R112, R134). -/
  | answer {i : Instr} (hi : i ∈ [.empty, .avail, .crcFin]) (a : PortRet) : Effect s i { s with portRet := a }
  /-- `CRC_CFG` (R131). -/
  | crcCfg (p i : U16) (ri ro : Bool) (x : U16) : Effect s (.crcCfg p i ri ro x) (crcConfigure p i ri ro x s)
  /-- `CRC_ACC` (R132). -/
  | crcAcc (bs : List Byte) : Effect s (.crcAcc bs) (crcAccumulate bs s)
  /-- A hold on an empty ring (R114). -/
  | hold {i : Instr} (hi : i ∈ [.deq, .rSeek, .rType, .rLen, .rCsum, .rPay, .wSeek, .wType]) : Effect s i s
  /-- `DEQ` (R113). -/
  | deq (hfree : ClientFree s) (hne : s.rd ≠ s.wr) (a : PortRet) : Effect s .deq { advanceRd s with portRet := a }
  /-- A turn of `RDX` that takes no byte (R116). -/
  | rdxWait (n : Nat) (tmo : TmoSel) (hst : InStage s .idle) (a : PortRet) (x : Option RdxTransfer) :
      Effect s (.rdx n tmo) { s with portRet := a, rdx := x }
  /-- A turn of `RDX` that takes a byte (R116). -/
  | rdxTake (n : Nat) (tmo : TmoSel) (hst : InStage s .idle) (hne : s.rd ≠ s.wr) (a : PortRet)
      (x : Option RdxTransfer) : Effect s (.rdx n tmo) { advanceRd s with portRet := a, rdx := x }
  /-- `READ` with a NULL pointer (R150). -/
  | readNull (e : FrameClass) (tmo : TmoSel) (hfree : ClientFree s) :
      Effect s (.read e tmo .null) (raise .invalidArgument s)
  /-- `READ` accepted (R150, R201). -/
  | readValid (e : FrameClass) (tmo : TmoSel) (hfree : ClientFree s) :
      Effect s (.read e tmo .valid) { s with
        tx := s.tx ++ owedBytes s, ackOwed := (discharge s).ackOwed, abortOwed := (discharge s).abortOwed
        b2b := (discharge s).b2b, exp := e, tmo := tmo, stage := .rSeek }
  /-- `WRITE` above `TX_CAP` (R180). -/
  | writeTooLong (cls : FrameClass) (p : List Byte) (tmo : TmoSel) (hfree : ClientFree s)
      (hlen : s.cfg.txCap < p.length) : Effect s (.write cls p tmo) (raise .invalidArgument s)
  /-- `WRITE` accepted (R180, R183, R184, R201). -/
  | writeSent (cls : FrameClass) (p : List Byte) (tmo : TmoSel) (hfree : ClientFree s)
      (hlen : p.length ≤ s.cfg.txCap) (sent : List Byte) :
      Effect s (.write cls p tmo) { storeFrame cls p s with
        tx := s.tx ++ owedBytes s ++ sent, ackOwed := (discharge s).ackOwed
        abortOwed := (discharge s).abortOwed, b2b := false, tmo := tmo, stage := .wSeek }
  /-- `FINALIZE` (R205). -/
  | finalize (hfree : ClientFree s) : Effect s .finalize { s with
      tx := s.tx ++ owedBytes s, ackOwed := (discharge s).ackOwed, abortOwed := (discharge s).abortOwed
      b2b := (discharge s).b2b, result := .ok }
  /-- `ABORT` with an ACK owed (R206). -/
  | abortOwed (hfree : ClientFree s) (hack : s.ackOwed = true) :
      Effect s .abort { s with ackOwed := false, abortOwed := true, result := .ok }
  /-- `ABORT` with no ACK owed: the sticky fault (R207). -/
  | abortFault (hfree : ClientFree s) (hack : s.ackOwed = false) : Effect s .abort (raiseFault s)
  /-- `MAXPAY` (R209). -/
  | maxpay (hfree : ClientFree s) :
      Effect s .maxpay { s with retVal := BitVec.ofNat 16 s.cfg.txCap, result := .ok }
  /-- `R_SEEK` on the start marker (R152). -/
  | rSeekMarker (hst : InStage s .rSeek) (hne : s.rd ≠ s.wr) :
      Effect s .rSeek { advanceRd s with hdr0 := s.cfg.sof, stage := .rType }
  /-- `R_SEEK` on any other byte (R152). -/
  | rSeekDrop (hst : InStage s .rSeek) (hne : s.rd ≠ s.wr) : Effect s .rSeek (advanceRd s)
  /-- `R_TYPE` on a probe (R154): `Respond` appends its bytes. -/
  | rTypeProbe (hst : InStage s .rType) (hne : s.rd ≠ s.wr) (answer : List Byte) :
      Effect s .rType { advanceRd s with tx := s.tx ++ answer, stage := .rSeek }
  /-- `R_TYPE` on the expected class (R155). -/
  | rTypeAccept {b : Byte} (hst : InStage s .rType) (hne : s.rd ≠ s.wr) (hb : s.ring.get s.rd = some b)
      (hping : b ≠ s.cfg.tPing) (hexp : b = classCode s.cfg s.exp) :
      Effect s .rType { advanceRd s with hdr1 := b, b2b := false, stage := .rLen, cnt := 0 }
  /-- `R_TYPE` on any other byte (R155). -/
  | rTypeMismatch {b : Byte} (hst : InStage s .rType) (hne : s.rd ≠ s.wr) (hb : s.ring.get s.rd = some b)
      (hping : b ≠ s.cfg.tPing) (hexp : b ≠ classCode s.cfg s.exp) :
      Effect s .rType (raise .protocolMismatch { advanceRd s with b2b := false })
  /-- `R_LEN`, low byte (R156). -/
  | rLenLow (hst : InStage s .rLen) (hne : s.rd ≠ s.wr) (len : U16) :
      Effect s .rLen { advanceRd s with lenWire := len, cnt := 1 }
  /-- `R_LEN`, high byte (R156). -/
  | rLenHigh (hst : InStage s .rLen) (hne : s.rd ≠ s.wr) (len : U16) :
      Effect s .rLen (lengthComplete { advanceRd s with lenWire := len })
  /-- `R_CSUM`, low byte (R157). -/
  | rCsumLow (hst : InStage s .rCsum) (hne : s.rd ≠ s.wr) (k : U16) :
      Effect s .rCsum { advanceRd s with csumRx := k, cnt := 1 }
  /-- `R_CSUM`, high byte, no payload (R158). -/
  | rCsumEmpty (hst : InStage s .rCsum) (hne : s.rd ≠ s.wr) (k : U16) (hlen : s.lenEff = 0) :
      Effect s .rCsum { advanceRd s with
        csumRx := k, rxbuf := s.rxbuf.putAll 0 (List.replicate s.cfg.rxCap 0), stage := .rVerify }
  /-- `R_CSUM`, high byte, a payload to come (R158). -/
  | rCsumPayload (hst : InStage s .rCsum) (hne : s.rd ≠ s.wr) (k : U16) (hlen : s.lenEff ≠ 0) :
      Effect s .rCsum { advanceRd s with
        csumRx := k, rxbuf := s.rxbuf.putAll 0 (List.replicate s.cfg.rxCap 0), stage := .rPay, cnt := 0 }
  /-- `R_PAY`, the last byte (R159). -/
  | rPayLast (hst : InStage s .rPay) (hne : s.rd ≠ s.wr) (b : Byte) (hcnt : s.cnt.toNat < s.cfg.rxCap) :
      Effect s .rPay { advanceRd s with rxbuf := s.rxbuf.put s.cnt.toNat b, stage := .rVerify }
  /-- `R_PAY`, more to come (R159). -/
  | rPayMore (hst : InStage s .rPay) (hne : s.rd ≠ s.wr) (b : Byte) (hcnt : s.cnt.toNat < s.cfg.rxCap)
      (hmore : s.cnt.toNat + 1 ≠ s.lenEff.toNat) :
      Effect s .rPay { advanceRd s with rxbuf := s.rxbuf.put s.cnt.toNat b, cnt := s.cnt + 1 }
  /-- `R_VERIFY`, the checksum matches (R162). -/
  | rVerifyMatch (hst : InStage s .rVerify) : Effect s .rVerify { s with
      crcAcc := s.csumRx, crcPoly := xmodemPoly, crcInit := 0, crcRefin := false, crcRefout := false, crcXorout := 0
      result := .ok, stage := .idle, ackOwed := true, rxLen := s.lenEff }
  /-- `R_VERIFY`, the checksum differs (R163). -/
  | rVerifyNak (hst : InStage s .rVerify) (a : U16) : Effect s .rVerify { s with
      crcAcc := a, crcPoly := xmodemPoly, crcInit := 0, crcRefin := false, crcRefout := false, crcXorout := 0
      tx := s.tx ++ [s.cfg.sof, s.cfg.tNak], b2b := true, stage := .rSeek }
  /-- `W_SEEK` on the start marker (R215). -/
  | wSeekMarker (hst : InStage s .wSeek) (hne : s.rd ≠ s.wr) : Effect s .wSeek { advanceRd s with stage := .wType }
  /-- `W_SEEK` on any other byte (R215). -/
  | wSeekDrop (hst : InStage s .wSeek) (hne : s.rd ≠ s.wr) : Effect s .wSeek (advanceRd s)
  /-- `W_TYPE` on an ACK (R216). -/
  | wTypeAck (hst : InStage s .wType) (hne : s.rd ≠ s.wr) (hb : s.ring.get s.rd = some s.cfg.tAck) :
      Effect s .wType (raise .ok { advanceRd s with b2b := false })
  /-- `W_TYPE` on an ACK-ABORT (R216). -/
  | wTypeAckAbort (hst : InStage s .wType) (hne : s.rd ≠ s.wr) (hb : s.ring.get s.rd = some s.cfg.tAckAbort) :
      Effect s .wType (raise .abort { advanceRd s with b2b := false })
  /-- `W_TYPE` on a NAK (R217). -/
  | wTypeNak (hst : InStage s .wType) (hne : s.rd ≠ s.wr) (sent : List Byte) :
      Effect s .wType { advanceRd s with b2b := false, tx := s.tx ++ sent, stage := .wSeek }
  /-- `W_TYPE` on any other byte (R216). -/
  | wTypeForeign {b : Byte} (hst : InStage s .wType) (hne : s.rd ≠ s.wr) (hb : s.ring.get s.rd = some b)
      (hother : b ∉ [s.cfg.tAck, s.cfg.tNak, s.cfg.tAckAbort]) :
      Effect s .wType (raise .protocolMismatch { advanceRd s with b2b := false })
  /-- The time-out draw of a call (R118). -/
  | timeoutCall (hst : s.stage.bounded = true) (hflt : s.flt = false) (htmo : s.tmo = .bounded)
      (himpl : s.cfg.timeoutImpl = true) (hempty : s.rd = s.wr) : Effect s .timeout (raise .timeout s)
  /-- The time-out of an `RDX` (R116). -/
  | timeoutRdx (hflt : s.flt = false) (a : PortRet) : Effect s .timeout { s with portRet := a, rdx := none }
  /-- `Discharge` run alone (R201). -/
  | discharge : Effect s .discharge { s with
      tx := s.tx ++ owedBytes s, ackOwed := (discharge s).ackOwed, abortOwed := (discharge s).abortOwed
      b2b := (discharge s).b2b }
  /-- An emitter run alone (R182, R185, R210). -/
  | emitted {i : Instr} (hi : i.isInternal = true) (bs : List Byte) : Effect s i { s with tx := s.tx ++ bs }
  /-- `BuildData` run alone (R183). -/
  | buildData (cls : FrameClass) (p : List Byte) (hlen : p.length ≤ s.cfg.txCap) :
      Effect s (.buildData cls p) (storeFrame cls p s)
  /-- `SendTxbuf` run alone (R184). -/
  | sendTxbuf (bs : List Byte) : Effect s .sendTxbuf { s with tx := s.tx ++ bs, b2b := false }

/-- R95: a frame row is the delivery of its encoding. -/
theorem exec_of_encode {i : Instr} {s : State} {bs : List Byte} (h : encode s.cfg i = some bs) :
    exec i s = deliver bs s := by
  cases i <;> cases h <;> rfl

/-- The next state of a frame's arrival. -/
theorem Effect.of_frame {i : Instr} {bs : List Byte} {s t : State} (hi : encode s.cfg i = some bs)
    (h : exec i s = .next t) : Effect s i t := by
  obtain ⟨hwr, rfl⟩ := deliver_next.1 ((exec_of_encode hi).symm.trans h)
  rw [foldl_enqueue_frame]
  exact .frame hi hwr

/-- R201 as a frame: the emission and the three flags. -/
theorem discharge_eq (s : State) : discharge s = { s with
    tx := s.tx ++ owedBytes s, ackOwed := (discharge s).ackOwed, abortOwed := (discharge s).abortOwed
    b2b := (discharge s).b2b } := by
  rw [← discharge_tx]
  exact discharge_frame s

/-- R183, R141 in closed form: the three writes to `TXBUF`, the length, the CRC registers. -/
theorem storeFrame_closed (cls : FrameClass) (p : List Byte) (s : State) : storeFrame cls p s = { s with
    txbuf := ((s.txbuf.putAll 0 (frameHeader s.cfg cls p.length)).putAll 6 p).putAll 4
      (le16 (crc16 (frameHeader s.cfg cls p.length ++ p)))
    txLen := 6 + p.length, crcAcc := crc16 (frameHeader s.cfg cls p.length ++ p)
    crcPoly := xmodemPoly, crcInit := 0, crcRefin := false, crcRefout := false, crcXorout := 0 } := by
  rw [storeFrame_eq, storeFrame_txbuf]
  rfl

/-- `BuildData` reads neither `tx` nor the session flags (R183). -/
theorem storeFrame_flags (cls : FrameClass) (p : List Byte) (s : State) (tx : List Byte) (ack abort b2b : Bool) :
    storeFrame cls p { s with tx := tx, ackOwed := ack, abortOwed := abort, b2b := b2b } =
      { storeFrame cls p s with tx := tx, ackOwed := ack, abortOwed := abort, b2b := b2b } := by
  rw [storeFrame_closed, storeFrame_closed]

/-- R180: what a discharge before `BuildData` leaves shows only in `tx` and the flags. -/
theorem storeFrame_discharge (cls : FrameClass) (p : List Byte) (s : State) :
    storeFrame cls p (discharge s) = { storeFrame cls p s with
      tx := s.tx ++ owedBytes s, ackOwed := (discharge s).ackOwed, abortOwed := (discharge s).abortOwed
      b2b := (discharge s).b2b } :=
  (congrArg (storeFrame cls p) (discharge_eq s)).trans (storeFrame_flags cls p s _ _ _ _)

theorem Effect.of_execRead {e : FrameClass} {tmo : TmoSel} {d : Dst} {s t : State}
    (h : execRead e tmo d s = .next t) : Effect s (.read e tmo d) t := by
  obtain ⟨hfree, h⟩ := clientCall_next.1 h
  cases d
  case null => cases h; exact .readNull e tmo hfree
  case valid => cases h; rw [discharge_eq]; exact .readValid e tmo hfree

theorem Effect.of_execWrite {cls : FrameClass} {p : List Byte} {tmo : TmoSel} {s t : State}
    (h : execWrite cls p tmo s = .next t) : Effect s (.write cls p tmo) t := by
  obtain ⟨hfree, ⟨hlen, rfl⟩ | ⟨hlen, bs, -, rfl⟩⟩ := execWrite_next h
  · exact .writeTooLong cls p tmo hfree hlen
  · rw [storeFrame_discharge]; exact .writeSent cls p tmo hfree hlen bs

theorem Effect.of_execFinalize {s t : State} (h : execFinalize s = .next t) : Effect s .finalize t := by
  obtain ⟨hfree, h⟩ := clientCall_next.1 h
  cases h
  rw [discharge_eq]
  exact .finalize hfree

theorem Effect.of_execAbort {s t : State} (h : execAbort s = .next t) : Effect s .abort t := by
  obtain ⟨hfree, h⟩ := clientCall_next.1 h
  split at h
  next hack => cases h; exact .abortOwed hfree hack
  next hack => cases h; exact .abortFault hfree (Bool.eq_false_iff.mpr hack)

theorem Effect.of_execMaxpay {s t : State} (h : execMaxpay s = .next t) : Effect s .maxpay t := by
  obtain ⟨hfree, h⟩ := clientCall_next.1 h
  cases h
  exact .maxpay hfree

theorem Effect.of_execDeq {s t : State} (h : execDeq s = .next t) : Effect s .deq t := by
  obtain ⟨hfree, rfl | ⟨hne, a, rfl⟩⟩ := execDeq_next h
  · exact .hold (by simp)
  · exact .deq hfree hne a

theorem Effect.of_execRdx {n : Nat} {tmo : TmoSel} {s t : State} (h : execRdx n tmo s = .next t) :
    Effect s (.rdx n tmo) t := by
  obtain ⟨hstage, hflt, a, x, rfl | ⟨hne, rfl⟩⟩ := execRdx_next h
  · exact .rdxWait n tmo ⟨hstage, hflt⟩ a x
  · exact .rdxTake n tmo ⟨hstage, hflt⟩ hne a x

theorem Effect.of_execRSeek {s t : State} (h : execRSeek s = .next t) : Effect s .rSeek t := by
  obtain ⟨hstage, hflt, rfl | ⟨hne, rfl | rfl⟩⟩ := execRSeek_next h
  · exact .hold (by simp)
  · exact .rSeekMarker ⟨hstage, hflt⟩ hne
  · exact .rSeekDrop ⟨hstage, hflt⟩ hne

theorem Effect.of_execRType {s t : State} (h : execRType s = .next t) : Effect s .rType t := by
  obtain ⟨hstage, hflt, rfl | ⟨hne, b, hb, ⟨-, rfl⟩ | ⟨hping, hexp, rfl⟩ | ⟨hping, hexp, rfl⟩⟩⟩ := execRType_next h
  · exact .hold (by simp)
  · obtain ⟨hframe, answer, htx⟩ := respond_eq (advanceRd s)
    rw [hframe, htx]
    exact .rTypeProbe ⟨hstage, hflt⟩ hne answer
  · exact .rTypeAccept ⟨hstage, hflt⟩ hne hb hping hexp
  · exact .rTypeMismatch ⟨hstage, hflt⟩ hne hb hping hexp

theorem Effect.of_execRLen {s t : State} (h : execRLen s = .next t) : Effect s .rLen t := by
  obtain ⟨hstage, hflt, rfl | ⟨hne, b, ⟨-, rfl⟩ | ⟨-, rfl⟩⟩⟩ := execRLen_next h
  · exact .hold (by simp)
  · exact .rLenLow ⟨hstage, hflt⟩ hne _
  · exact .rLenHigh ⟨hstage, hflt⟩ hne _

theorem Effect.of_execRCsum {s t : State} (h : execRCsum s = .next t) : Effect s .rCsum t := by
  obtain ⟨hstage, hflt, rfl | ⟨hne, b, ⟨-, rfl⟩ | ⟨-, rfl⟩⟩⟩ := execRCsum_next h
  · exact .hold (by simp)
  · exact .rCsumLow ⟨hstage, hflt⟩ hne _
  · by_cases hlen : s.lenEff = 0
    case pos =>
      have hdone : checksumComplete { advanceRd s with csumRx := setHiByte s.csumRx b } = { advanceRd s with
          csumRx := setHiByte s.csumRx b, rxbuf := s.rxbuf.putAll 0 (List.replicate s.cfg.rxCap 0)
          stage := .rVerify } := if_pos hlen
      rw [hdone]; exact .rCsumEmpty ⟨hstage, hflt⟩ hne _ hlen
    case neg =>
      have hdone : checksumComplete { advanceRd s with csumRx := setHiByte s.csumRx b } = { advanceRd s with
          csumRx := setHiByte s.csumRx b, rxbuf := s.rxbuf.putAll 0 (List.replicate s.cfg.rxCap 0)
          stage := .rPay, cnt := 0 } := if_neg hlen
      rw [hdone]; exact .rCsumPayload ⟨hstage, hflt⟩ hne _ hlen

theorem Effect.of_execRPay {s t : State} (h : execRPay s = .next t) : Effect s .rPay t := by
  obtain ⟨hstage, hflt, rfl | ⟨hne, hcnt, b, ⟨-, rfl⟩ | ⟨hmore, rfl⟩⟩⟩ := execRPay_next h
  · exact .hold (by simp)
  · exact .rPayLast ⟨hstage, hflt⟩ hne b hcnt
  · exact .rPayMore ⟨hstage, hflt⟩ hne b hcnt hmore

theorem Effect.of_execRVerify {s t : State} (h : execRVerify s = .next t) : Effect s .rVerify t := by
  obtain ⟨hstage, hflt, p, -, rfl⟩ := execRVerify_next h
  obtain heq | ⟨a, heq⟩ := verifyPayload_eq p s
  · rw [heq]; exact .rVerifyMatch ⟨hstage, hflt⟩
  · rw [heq]; exact .rVerifyNak ⟨hstage, hflt⟩ a

theorem Effect.of_execWSeek {s t : State} (h : execWSeek s = .next t) : Effect s .wSeek t := by
  obtain ⟨hstage, hflt, rfl | ⟨hne, rfl | rfl⟩⟩ := execWSeek_next h
  · exact .hold (by simp)
  · exact .wSeekMarker ⟨hstage, hflt⟩ hne
  · exact .wSeekDrop ⟨hstage, hflt⟩ hne

theorem Effect.of_execWType {s t : State} (h : execWType s = .next t) : Effect s .wType t := by
  obtain ⟨hstage, hflt, rfl | ⟨hne, b, hb, ⟨rfl, rfl⟩ | ⟨rfl, rfl⟩ | ⟨-, bs, -, rfl⟩ | ⟨hother, rfl⟩⟩⟩ :=
    execWType_next h
  · exact .hold (by simp)
  · exact .wTypeAck ⟨hstage, hflt⟩ hne hb
  · exact .wTypeAckAbort ⟨hstage, hflt⟩ hne hb
  · exact .wTypeNak ⟨hstage, hflt⟩ hne bs
  · exact .wTypeForeign ⟨hstage, hflt⟩ hne hb hother

theorem Effect.of_execTimeout {s t : State} (h : execTimeout s = .next t) : Effect s .timeout t := by
  obtain ⟨hst, hflt, htmo, himpl, hempty, rfl⟩ | ⟨hflt, a, rfl⟩ := execTimeout_next h
  · exact .timeoutCall hst hflt htmo himpl hempty
  · exact .timeoutRdx hflt a

theorem Effect.of_execDischarge {s t : State} (h : execDischarge s = .next t) : Effect s .discharge t := by
  cases h
  rw [discharge_eq]
  exact .discharge

theorem Effect.of_execRespond {s t : State} (h : execRespond s = .next t) : Effect s .respond t := by
  cases h
  obtain ⟨hframe, answer, htx⟩ := respond_eq s
  rw [hframe, htx]
  exact .emitted rfl answer

theorem Effect.of_execBuildData {cls : FrameClass} {p : List Byte} {s t : State}
    (h : execBuildData cls p s = .next t) : Effect s (.buildData cls p) t := by
  obtain ⟨u, hu, h⟩ := andThen_next.1 h
  cases h
  obtain ⟨hlen, rfl⟩ := buildData_ok.1 hu
  exact .buildData cls p hlen

theorem Effect.of_execSendTxbuf {s t : State} (h : execSendTxbuf s = .next t) : Effect s .sendTxbuf t := by
  obtain ⟨u, hu, h⟩ := andThen_next.1 h
  cases h
  obtain ⟨bs, -, rfl⟩ := sendTxbuf_ok.1 hu
  exact .sendTxbuf bs

/-- Everything an operation can do. -/
theorem exec_effect {i : Instr} {s t : State} (h : exec i s = .next t) : Effect s i t := by
  cases i with
  | enq b => obtain ⟨hwr, rfl⟩ := deliver_next.1 h; exact .enq b hwr
  | empty => cases h; exact .answer (by simp) _
  | avail => cases h; exact .answer (by simp) _
  | deq => exact .of_execDeq h
  | rdx n tmo => exact .of_execRdx h
  | crcCfg p i ri ro x => cases h; exact .crcCfg p i ri ro x
  | crcAcc bs => cases h; exact .crcAcc bs
  | crcFin => cases h; exact .answer (by simp) _
  | read e tmo d => exact .of_execRead h
  | write cls p tmo => exact .of_execWrite h
  | finalize => exact .of_execFinalize h
  | abort => exact .of_execAbort h
  | maxpay => exact .of_execMaxpay h
  | rSeek => exact .of_execRSeek h
  | rType => exact .of_execRType h
  | rLen => exact .of_execRLen h
  | rCsum => exact .of_execRCsum h
  | rPay => exact .of_execRPay h
  | rVerify => exact .of_execRVerify h
  | wSeek => exact .of_execWSeek h
  | wType => exact .of_execWType h
  | timeout => exact .of_execTimeout h
  | discharge => exact .of_execDischarge h
  | respond => exact .of_execRespond h
  | syncEmit t => cases h; exact .emitted rfl _
  | buildData cls p => exact .of_execBuildData h
  | sendTxbuf => exact .of_execSendTxbuf h
  | respEmit => cases h; exact .emitted rfl _
  | ack => exact .of_frame rfl h
  | nak => exact .of_frame rfl h
  | ackAbort => exact .of_frame rfl h
  | command k p => exact .of_frame rfl h
  | data k p => exact .of_frame rfl h
  | ping => exact .of_frame rfl h
  | pingResponse r => exact .of_frame rfl h

end Sys2Proof.Machine
end

section
/-! The invariant of the ring (spec/40_ring_buffer.md R115, R120): what each operation can do to `RING[]` and the
cursors, that every such move keeps `RingInv`, and O51 from the first of these. -/

namespace Sys2Proof.Machine

/-- R115, R247: an operation delivers bytes, or leaves `RING[]` and `wr` and moves `rd` by at most one place; the
configuration stands. -/
theorem Effect.ring_cases {s t : State} {i : Instr} (he : Effect s i t) : t.cfg = s.cfg ∧
    ((((∃ b, i = .enq b) ∨ encode s.cfg i ≠ none) ∧
        ∃ bs : List Byte, t.ring = (bs.foldl enqueue s).ring ∧ t.wr = (bs.foldl enqueue s).wr ∧ t.rd = s.rd) ∨
      (t.ring = s.ring ∧ t.wr = s.wr ∧
        (t.rd = s.rd ∨ (s.rd ≠ s.wr ∧ t.rd = cursorNext s.cfg s.rd ∧
          ((∃ n tmo, i = .rdx n tmo) ∨ i ∈ [.deq, .rSeek, .rType, .rLen, .rCsum, .rPay, .wSeek, .wType]))))) := by
  cases he with
  | enq b => exact ⟨rfl, .inl ⟨.inl ⟨b, rfl⟩, [b], rfl, rfl, rfl⟩⟩
  | @frame _ bs hi => exact ⟨rfl, .inl ⟨.inr (by simp [hi]), bs, rfl, rfl, rfl⟩⟩
  | rdxTake n tmo _ hne => exact ⟨rfl, .inr ⟨rfl, rfl, .inr ⟨hne, rfl, .inl ⟨n, tmo, rfl⟩⟩⟩⟩
  | deq _ hne | rSeekMarker _ hne | rSeekDrop _ hne | rTypeProbe _ hne | rTypeAccept _ hne | rTypeMismatch _ hne
  | rLenLow _ hne | rLenHigh _ hne | rCsumLow _ hne | rCsumEmpty _ hne | rCsumPayload _ hne | rPayLast _ hne
  | rPayMore _ hne | wSeekMarker _ hne | wSeekDrop _ hne | wTypeAck _ hne | wTypeAckAbort _ hne | wTypeNak _ hne
  | wTypeForeign _ hne =>
    exact ⟨rfl, .inr ⟨rfl, rfl, .inr ⟨hne, rfl, .inr (by simp)⟩⟩⟩
  | _ => exact ⟨rfl, .inr ⟨rfl, rfl, .inl rfl⟩⟩

/-- Settles O51. -/
theorem eachCursorHasOneWriter : Obligations.EachCursorHasOneWriter := by
  intro s t i h
  obtain ⟨-, ⟨hproducer, bs, -, -, hrd⟩ | ⟨hring, hwr, hrd⟩⟩ := (exec_effect h).ring_cases
  · refine ⟨fun hnone hnotEnq => ?_, fun hmoved => absurd hrd hmoved⟩
    rcases hproducer with ⟨b, hb⟩ | hsome
    · exact absurd hb (hnotEnq b)
    · exact absurd hnone hsome
  · refine ⟨fun _ _ => ⟨hring, hwr⟩, fun hmoved => ?_⟩
    rcases hrd with hsame | ⟨-, hnext, hreader⟩
    · exact absurd hsame hmoved
    · exact ⟨hnext, hring, hwr, hreader⟩

/-- The ring's invariant reads `RING[]`, the cursors and the configuration only. -/
theorem RingInv.congr {s t : State} (h : RingInv s) (hring : t.ring = s.ring) (hwr : t.wr = s.wr) (hrd : t.rd = s.rd)
    (hcfg : t.cfg = s.cfg) : RingInv t := by
  obtain ⟨hcur, hform, hrange, hwritten⟩ := h
  refine ⟨?_, ?_, ?_, ?_⟩
  · rw [CursorsOk, hcfg, hwr, hrd]; exact hcur
  · rw [hring]; exact hform
  · rw [hring, hcfg]; exact hrange
  · simp only [ringAvail, ringSlot, hring, hwr, hrd, hcfg]; exact hwritten

/-- A dequeue uncovers no slot. -/
theorem RingInv.of_advanceRd {s : State} (h : RingInv s) (hne : s.rd ≠ s.wr) : RingInv (advanceRd s) where
  cursors := cursorsOk_advanceRd h.cursors
  form := h.form
  range := h.range
  written := fun i hi => by
    rw [ringSlot_advanceRd h.cursors]
    exact h.written (i + 1) (by rw [ringAvail_advanceRd h.cursors hne]; omega)

/-- An `ENQ` writes the one slot it uncovers; after an overflow none is visible. -/
theorem RingInv.of_enqueue {s : State} (h : RingInv s) (b : Byte) : RingInv (enqueue s b) where
  cursors := cursorsOk_enqueue h.cursors b
  form := Memory.put_wf h.form s.wr b
  range := Memory.put_range h.range h.cursors.2.1 b
  written := fun i hi => by
    change ((s.ring.put s.wr b).get (ringSlot s i)).isSome = true
    rw [ringAvail_enqueue h.cursors] at hi
    split at hi
    next => omega
    next =>
      rcases Nat.lt_succ_iff_lt_or_eq.1 hi with hold | rfl
      · exact Memory.isSome_put (h.written i hold) s.wr b
      · rw [ringSlot_ringAvail h.cursors, Memory.get_put_same]; rfl

theorem RingInv.of_foldl_enqueue {s : State} (h : RingInv s) (bs : List Byte) : RingInv (bs.foldl enqueue s) := by
  induction bs generalizing s with
  | nil => exact h
  | cons b bs ih => exact ih (h.of_enqueue b)

theorem foldl_enqueue_cfg (bs : List Byte) (s : State) : (bs.foldl enqueue s).cfg = s.cfg := by
  rw [foldl_enqueue_frame]

theorem foldl_enqueue_rd (bs : List Byte) (s : State) : (bs.foldl enqueue s).rd = s.rd := by
  rw [foldl_enqueue_frame]

/-- R115, R120: every operation keeps the ring's invariant. -/
theorem RingInv.effect {s t : State} {i : Instr} (h : RingInv s) (he : Effect s i t) : RingInv t := by
  obtain ⟨hcfg, ⟨-, bs, hring, hwr, hrd⟩ | ⟨hring, hwr, hrd | ⟨hne, hrd, -⟩⟩⟩ := he.ring_cases
  · exact (h.of_foldl_enqueue bs).congr hring hwr (hrd.trans (foldl_enqueue_rd bs s).symm)
      (hcfg.trans (foldl_enqueue_cfg bs s).symm)
  · exact h.congr hring hwr hrd hcfg
  · exact (h.of_advanceRd hne).congr hring hwr hrd hcfg

/-- R120: on a ring that is not empty the byte at `rd` has been written. -/
theorem RingInv.nextByte {s : State} (h : RingInv s) (hne : s.rd ≠ s.wr) : ∃ b, NextByte s b := by
  have hpos : 0 < ringAvail s := Nat.pos_of_ne_zero (mt (ringAvail_eq_zero h.cursors).1 hne)
  have hfirst := h.written 0 hpos
  have hslot : ringSlot s 0 = s.rd := by
    rw [ringSlot, Nat.add_zero, Nat.mod_eq_of_lt h.cursors.2.2]
  rw [hslot] at hfirst
  obtain ⟨b, hb⟩ := Option.isSome_iff_exists.1 hfirst
  exact ⟨b, h.cursors.1, hne, h.cursors.2.2, hb⟩

end Sys2Proof.Machine
end

section
/-! The invariant of the buffers (spec/10_state.md R31, R32; spec/42_frame_decoder.md R158): every operation keeps
`BufferInv`. -/

namespace Sys2Proof.Machine

/-- The buffers' invariant where no buffer is written and no reading or retaining stage is entered from outside. -/
theorem BufferInv.congr {s t : State} (h : BufferInv s) (hrx : t.rxbuf = s.rxbuf) (hrxLen : t.rxLen = s.rxLen)
    (htx : t.txbuf = s.txbuf) (htxLen : t.txLen = s.txLen) (hcfg : t.cfg = s.cfg)
    (hread : t.stage = .rPay ∨ t.stage = .rVerify → s.stage = .rPay ∨ s.stage = .rVerify)
    (hretain : t.stage = .wSeek ∨ t.stage = .wType → s.stage = .wSeek ∨ s.stage = .wType) : BufferInv t := by
  constructor
  case rxForm => rw [hrx]; exact h.rxForm
  case rxRange => rw [hrx, hcfg]; exact h.rxRange
  case rxWritten => rw [hrx, hcfg]; exact fun hst => h.rxWritten (hread hst)
  case rxLen => rw [hrxLen, hcfg]; exact h.rxLen
  case txForm => rw [htx]; exact h.txForm
  case txRange => rw [htx, hcfg]; exact h.txRange
  case txLen => rw [htxLen, hcfg]; exact h.txLen
  case txWritten => rw [htx, htxLen]; exact h.txWritten
  case txRetained => rw [htxLen]; exact fun hst => h.txRetained (hretain hst)

/-- R158: the zeroed buffer has every byte written. -/
theorem isSome_get_zeroed (m : Memory) {n i : Nat} (hi : i < n) :
    ((m.putAll 0 (List.replicate n 0)).get i).isSome = true := by
  rw [Memory.get_putAll]
  simp [hi]

theorem builtFrame_length (c : Config) (cls : FrameClass) (p : List Byte) :
    (builtFrame c cls p).length = 6 + p.length := by
  simp only [builtFrame, dataFrame, frameHeader, le16, List.length_append, List.length_cons, List.length_nil]

/-- R158: zeroing `RXBUF` at the end of the checksum field makes it readable in every later stage of the frame. -/
theorem BufferInv.zeroed {s t : State} (h : BufferInv s) (hrx : t.rxbuf = s.rxbuf.putAll 0 (List.replicate s.cfg.rxCap 0))
    (hrxLen : t.rxLen = s.rxLen) (htx : t.txbuf = s.txbuf) (htxLen : t.txLen = s.txLen) (hcfg : t.cfg = s.cfg)
    (hretain : ¬ (t.stage = .wSeek ∨ t.stage = .wType)) : BufferInv t := by
  constructor
  case rxForm => rw [hrx]; exact Memory.putAll_wf h.rxForm _ _
  case rxRange => rw [hrx, hcfg]; exact Memory.putAll_range h.rxRange (by simp)
  case rxWritten => rw [hrx, hcfg]; exact fun _ i hi => isSome_get_zeroed _ hi
  case rxLen => rw [hrxLen, hcfg]; exact h.rxLen
  case txForm => rw [htx]; exact h.txForm
  case txRange => rw [htx, hcfg]; exact h.txRange
  case txLen => rw [htxLen, hcfg]; exact h.txLen
  case txWritten => rw [htx, htxLen]; exact h.txWritten
  case txRetained => exact fun hst => absurd hst hretain

/-- R159: a payload byte lands inside `RXBUF` and unwrites nothing. -/
theorem BufferInv.stored {s t : State} (h : BufferInv s) (hst : s.stage = .rPay) {a : Nat} (ha : a < s.cfg.rxCap)
    (b : Byte) (hrx : t.rxbuf = s.rxbuf.put a b) (hrxLen : t.rxLen = s.rxLen) (htx : t.txbuf = s.txbuf)
    (htxLen : t.txLen = s.txLen) (hcfg : t.cfg = s.cfg) (hretain : ¬ (t.stage = .wSeek ∨ t.stage = .wType)) :
    BufferInv t := by
  constructor
  case rxForm => rw [hrx]; exact Memory.put_wf h.rxForm _ _
  case rxRange => rw [hrx, hcfg]; exact Memory.put_range h.rxRange ha b
  case rxWritten => rw [hrx, hcfg]; exact fun _ i hi => Memory.isSome_put (h.rxWritten (.inl hst) i hi) a b
  case rxLen => rw [hrxLen, hcfg]; exact h.rxLen
  case txForm => rw [htx]; exact h.txForm
  case txRange => rw [htx, hcfg]; exact h.txRange
  case txLen => rw [htxLen, hcfg]; exact h.txLen
  case txWritten => rw [htx, htxLen]; exact h.txWritten
  case txRetained => exact fun hst => absurd hst hretain

/-- R183: the frame of a payload that fits lies inside `TXBUF`, all of it written. -/
theorem BufferInv.built {s t : State} (h : BufferInv s) {cls : FrameClass} {p : List Byte}
    (hlen : p.length ≤ s.cfg.txCap) (htx : t.txbuf = (storeFrame cls p s).txbuf) (htxLen : t.txLen = 6 + p.length)
    (hrx : t.rxbuf = s.rxbuf) (hrxLen : t.rxLen = s.rxLen) (hcfg : t.cfg = s.cfg)
    (hread : ¬ (t.stage = .rPay ∨ t.stage = .rVerify)) : BufferInv t := by
  constructor
  case rxForm => rw [hrx]; exact h.rxForm
  case rxRange => rw [hrx, hcfg]; exact h.rxRange
  case rxWritten => exact fun hst => absurd hst hread
  case rxLen => rw [hrxLen, hcfg]; exact h.rxLen
  case txForm =>
    rw [htx, storeFrame_txbuf]
    exact Memory.putAll_wf (Memory.putAll_wf (Memory.putAll_wf h.txForm _ _) _ _) _ _
  case txRange =>
    rw [htx, storeFrame_txbuf, hcfg]
    have hheader : (frameHeader s.cfg cls p.length).length = 4 := rfl
    have hsum : (le16 (crc16 (frameHeader s.cfg cls p.length ++ p))).length = 2 := rfl
    exact Memory.putAll_range (Memory.putAll_range (Memory.putAll_range h.txRange (by omega)) (by omega)) (by omega)
  case txLen => rw [htxLen, hcfg]; omega
  case txWritten =>
    intro i hi
    rw [htxLen] at hi
    rw [htx, storeFrame_txbuf_get, if_pos hi, List.getElem?_eq_getElem (by rw [builtFrame_length]; exact hi)]
    rfl
  case txRetained => rw [htxLen]; exact fun _ => Nat.le_add_right 6 _

/-- R31, R32, R60: every operation keeps the buffers' invariant. In `R_VERIFY` the length delivered is the clamped
one. -/
theorem BufferInv.effect {s t : State} {i : Instr} (h : BufferInv s) (hwf : s.cfg.wf = true)
    (hclamped : s.stage = .rVerify → s.lenEff = clampLen s.cfg s.lenWire) (hi : i.isInternal = false)
    (he : Effect s i t) : BufferInv t := by
  cases he with
  | writeSent cls p tmo hfree hlen => exact h.built (cls := cls) hlen rfl rfl rfl rfl rfl (by simp)
  | rCsumEmpty | rCsumPayload => exact h.zeroed rfl rfl rfl rfl rfl (by simp)
  | rPayLast hst _ b hcnt => exact h.stored hst.1 hcnt b rfl rfl rfl rfl rfl (by simp)
  | rPayMore hst _ b hcnt => exact h.stored hst.1 hcnt b rfl rfl rfl rfl rfl (by simp [hst.1])
  | rVerifyMatch hst =>
    have hdelivered : s.lenEff.toNat ≤ s.cfg.rxCap := by
      rw [hclamped hst.1, clampLen_toNat hwf]; exact Nat.min_le_right _ _
    exact { h with
      rxWritten := by simp
      rxLen := hdelivered
      txRetained := by simp }
  | wSeekMarker hst | wTypeNak hst => exact h.congr rfl rfl rfl rfl rfl (by simp) (by simp [hst.1])
  | buildData => cases hi
  | _ => exact h.congr rfl rfl rfl rfl rfl (by simp) (by simp)

end Sys2Proof.Machine
end

section
/-! The invariant of the sequencer (spec/10_state.md R26 to R36, spec/44_session.md R170) in its two halves: the flags
and the result, and the latches of a frame being read. Every operation keeps each half. -/

namespace Sys2Proof.Machine

/-- The half of `SequencerInv` on the owed flags, `flt`, the transfer and the result. -/
structure FlagsInv (s : State) : Prop where
  /-- R36. -/
  owedOne : OwedOne s
  /-- R170. -/
  owedIdle : s.stage ≠ .idle → s.ackOwed = false ∧ s.abortOwed = false
  /-- R207. -/
  fltIdle : s.flt = true → s.stage = .idle
  /-- R43, R38. -/
  rdxIdle : s.rdx.isSome = true → s.stage = .idle ∧ s.flt = false
  /-- R230. -/
  result : s.result ≠ .checksumMismatch ∧ s.result ≠ .callerContractViolation

/-- The half of `SequencerInv` on the counter and the latches of the frame being read. -/
structure FrameInv (s : State) : Prop where
  /-- R26. -/
  fieldCount : s.stage = .rLen ∨ s.stage = .rCsum → s.cnt.toNat ≤ 1
  /-- R159. -/
  payloadCount : s.stage = .rPay → s.cnt.toNat < s.lenEff.toNat
  /-- R28. -/
  marker : s.stage = .rType ∨ s.stage.inFrame = true → s.hdr0 = s.cfg.sof
  /-- R155. -/
  type : s.stage.inFrame = true → s.hdr1 = classCode s.cfg s.exp
  /-- R29. -/
  length : s.stage.lengthKnown = true → s.lenEff = clampLen s.cfg s.lenWire
  /-- R28. -/
  lengthBytes : s.stage.lengthKnown = true →
    s.hdr2 = loByte (checksumLen s.cfg s.lenWire) ∧ s.hdr3 = hiByte (checksumLen s.cfg s.lenWire)

/-- The two halves are the whole. -/
theorem sequencerInv_iff {s : State} : SequencerInv s ↔ FlagsInv s ∧ FrameInv s := by
  constructor
  · intro h
    exact ⟨{ h with }, { h with }⟩
  · rintro ⟨hflags, hframe⟩
    exact { hflags, hframe with }

/-- Inside a call no flag stands, so a step that leaves the flags keeps their invariant, whatever stage it enters. -/
theorem FlagsInv.of_inCall {s t : State} (h : FlagsInv s) (hst : s.stage ≠ .idle) (hack : t.ackOwed = s.ackOwed)
    (habort : t.abortOwed = s.abortOwed) (hflt : t.flt = s.flt) (hrdx : t.rdx = s.rdx)
    (hresult : t.result = s.result ∨ t.result ∈ [.ok, .timeout, .protocolMismatch, .abort]) : FlagsInv t := by
  obtain ⟨hnoAck, hnoAbort⟩ := h.owedIdle hst
  have hnoFlt : t.flt ≠ true := fun hf => hst (h.fltIdle (hflt ▸ hf))
  have hnoRdx : t.rdx.isSome ≠ true := fun hr => hst (h.rdxIdle (hrdx ▸ hr)).1
  refine ⟨?_, fun _ => ⟨hack.trans hnoAck, habort.trans hnoAbort⟩, fun hf => absurd hf hnoFlt,
    fun hr => absurd hr hnoRdx, ?_⟩
  · rw [OwedOne, hack, hnoAck]; simp
  · rcases hresult with heq | hmem
    · rw [heq]; exact h.result
    · simp only [List.mem_cons, List.not_mem_nil, or_false] at hmem
      rcases hmem with heq | heq | heq | heq <;> simp [heq]

/-- R36, R170, R207, R230: every operation keeps the flags' invariant. -/
theorem FlagsInv.effect {s t : State} {i : Instr} (h : FlagsInv s) (hi : i.isInternal = false) (he : Effect s i t) :
    FlagsInv t := by
  obtain ⟨hnoAck, hnoAbort⟩ := discharge_owed h.owedOne
  cases he with
  | rdxWait n tmo hst => exact { h with rdxIdle := fun _ => hst }
  | rdxTake n tmo hst => exact { h with rdxIdle := fun _ => hst }
  | timeoutRdx hflt => exact { h with rdxIdle := by simp }
  | readNull _ _ hfree | writeTooLong _ _ _ hfree =>
    exact { h with
      owedIdle := by simp
      fltIdle := by simp
      rdxIdle := by simp [hfree]
      result := by simp }
  | readValid _ _ hfree | writeSent _ _ _ hfree =>
    have hflt : s.flt = false := hfree.2.1
    have hrdx : s.rdx = none := hfree.2.2
    exact {
      owedOne := by simp [OwedOne, hnoAck]
      owedIdle := fun _ => ⟨hnoAck, hnoAbort⟩
      fltIdle := fun hf => absurd hf (by simp [storeFrame_closed, hflt])
      rdxIdle := fun hr => absurd hr (by simp [storeFrame_closed, hrdx])
      result := h.result }
  | finalize hfree =>
    exact { h with
      owedOne := by simp [OwedOne, hnoAck]
      owedIdle := fun _ => ⟨hnoAck, hnoAbort⟩
      result := by simp }
  | abortOwed hfree =>
    exact { h with
      owedOne := by simp [OwedOne]
      owedIdle := fun hst => absurd hfree.1 hst
      result := by simp }
  | abortFault hfree => exact { h with fltIdle := fun _ => hfree.1, rdxIdle := by simp [hfree] }
  | maxpay hfree => exact { h with result := by simp }
  | rVerifyMatch hst =>
    obtain ⟨-, hnoAbort'⟩ := h.owedIdle (by simp [hst.1])
    exact {
      owedOne := by simp [OwedOne, hnoAbort']
      owedIdle := by simp
      fltIdle := by simp
      rdxIdle := by simp [hst.2]
      result := by simp }
  | rSeekMarker hst | rTypeProbe hst | rTypeAccept hst | rLenHigh hst | rCsumEmpty hst | rCsumPayload hst
  | rPayLast hst | rVerifyNak hst | wSeekMarker hst | wTypeNak hst =>
    exact h.of_inCall (by simp [hst.1]) rfl rfl rfl rfl (.inl rfl)
  | rTypeMismatch hst | wTypeAck hst | wTypeAckAbort hst | wTypeForeign hst =>
    exact h.of_inCall (by simp [hst.1]) rfl rfl rfl rfl (.inr (by simp))
  | timeoutCall hst =>
    have hcall : s.stage ≠ .idle := fun hidle => by rw [hidle] at hst; cases hst
    exact h.of_inCall hcall rfl rfl rfl rfl (.inr (by simp))
  | discharge | buildData | sendTxbuf => cases hi
  | emitted hint => rw [hi] at hint; cases hint
  | _ => exact { h with }

/-- A stage that knows the length is inside a frame. -/
theorem Stage.inFrame_of_lengthKnown {st : Stage} (h : st.lengthKnown = true) : st.inFrame = true := by
  cases st with
  | rCsum | rPay | rVerify => rfl
  | _ => cases h

/-- Outside a frame the latches are free. -/
theorem FrameInv.of_outside {t : State} (htype : t.stage ≠ .rType) (hframe : t.stage.inFrame = false) :
    FrameInv t where
  fieldCount := by rintro (hst | hst) <;> rw [hst] at hframe <;> cases hframe
  payloadCount := fun hst => by rw [hst] at hframe; cases hframe
  marker := by
    rintro (hst | hst)
    · exact absurd hst htype
    · rw [hframe] at hst; cases hst
  type := fun hst => by rw [hframe] at hst; cases hst
  length := fun hst => by rw [Stage.inFrame_of_lengthKnown hst] at hframe; cases hframe
  lengthBytes := fun hst => by rw [Stage.inFrame_of_lengthKnown hst] at hframe; cases hframe

/-- R159: below `len_eff` the payload counter does not wrap. -/
theorem payloadCount_succ {cnt len : U16} (hlt : cnt.toNat < len.toNat) (hmore : cnt.toNat + 1 ≠ len.toNat) :
    (cnt + 1).toNat < len.toNat := by
  have hlen := len.isLt
  have hone : (1 : U16).toNat = 1 := rfl
  rw [BitVec.toNat_add, hone]
  omega

/-- R26 to R29, R155, R159: every operation keeps the latches' invariant. -/
theorem FrameInv.effect {s t : State} {i : Instr} (h : FrameInv s) (he : Effect s i t) : FrameInv t := by
  cases he with
  | readNull | readValid | writeTooLong | writeSent | rTypeProbe | rTypeMismatch | rVerifyMatch | rVerifyNak
  | wSeekMarker | wTypeAck | wTypeAckAbort | wTypeNak | wTypeForeign | timeoutCall =>
    exact .of_outside (by simp) rfl
  | rSeekMarker hst =>
    exact {
      fieldCount := by simp
      payloadCount := by simp
      marker := fun _ => rfl
      type := by simp [Stage.inFrame]
      length := by simp [Stage.lengthKnown]
      lengthBytes := by simp [Stage.lengthKnown] }
  | rTypeAccept hst _ _ _ hexp =>
    exact {
      fieldCount := by simp
      payloadCount := by simp
      marker := fun _ => h.marker (.inl hst.1)
      type := fun _ => hexp
      length := by simp [Stage.lengthKnown]
      lengthBytes := by simp [Stage.lengthKnown] }
  | rLenLow hst =>
    exact { h with
      fieldCount := by simp
      payloadCount := by simp [hst.1]
      length := by simp [hst.1, Stage.lengthKnown]
      lengthBytes := by simp [hst.1, Stage.lengthKnown] }
  | rLenHigh hst =>
    exact {
      fieldCount := by simp
      payloadCount := by simp
      marker := fun _ => h.marker (.inr (by rw [hst.1]; rfl))
      type := fun _ => h.type (by rw [hst.1]; rfl)
      length := fun _ => rfl
      lengthBytes := fun _ => ⟨rfl, rfl⟩ }
  | rCsumLow hst =>
    exact { h with
      fieldCount := by simp
      payloadCount := by simp [hst.1] }
  | rCsumEmpty hst | rPayLast hst =>
    exact {
      fieldCount := by simp
      payloadCount := by simp
      marker := fun _ => h.marker (.inr (by rw [hst.1]; rfl))
      type := fun _ => h.type (by rw [hst.1]; rfl)
      length := fun _ => h.length (by rw [hst.1]; rfl)
      lengthBytes := fun _ => h.lengthBytes (by rw [hst.1]; rfl) }
  | rCsumPayload hst _ k hlen =>
    have hpos : (0 : U16).toNat < s.lenEff.toNat :=
      Nat.pos_of_ne_zero fun hz => hlen (BitVec.eq_of_toNat_eq hz)
    exact {
      fieldCount := by simp
      payloadCount := fun _ => hpos
      marker := fun _ => h.marker (.inr (by rw [hst.1]; rfl))
      type := fun _ => h.type (by rw [hst.1]; rfl)
      length := fun _ => h.length (by rw [hst.1]; rfl)
      lengthBytes := fun _ => h.lengthBytes (by rw [hst.1]; rfl) }
  | rPayMore hst _ b _ hmore =>
    exact { h with
      fieldCount := by simp [hst.1]
      payloadCount := fun _ => payloadCount_succ (h.payloadCount hst.1) hmore }
  | _ => exact { h with }

end Sys2Proof.Machine
end

section
/-! The invariant of the block over `step` (spec/70_reset_and_hazards.md R264): it holds at reset, every step keeps it,
and no access of a step that starts in it goes wrong; O47, O48 and O49. -/

namespace Sys2Proof.Machine

theorem ringInv_resetOf {c : Config} (hwf : c.wf = true) : RingInv (State.resetOf c) where
  cursors := cursorsOk_resetOf hwf
  form := List.Pairwise.nil
  range := by simp [State.resetOf]
  written := by simp [ringAvail_resetOf hwf]

theorem bufferInv_resetOf (c : Config) : BufferInv (State.resetOf c) where
  rxForm := List.Pairwise.nil
  rxRange := by simp [State.resetOf]
  rxWritten := by simp [State.resetOf]
  rxLen := by simp [State.resetOf]
  txForm := List.Pairwise.nil
  txRange := by simp [State.resetOf]
  txLen := by simp [State.resetOf]
  txWritten := by simp [State.resetOf]
  txRetained := by simp [State.resetOf]

theorem flagsInv_resetOf (c : Config) : FlagsInv (State.resetOf c) where
  owedOne := by simp [State.resetOf]
  owedIdle := by simp [State.resetOf]
  fltIdle := by simp [State.resetOf]
  rdxIdle := by simp [State.resetOf]
  result := by simp [State.resetOf]

/-- Settles O47: empty arrays, equal cursors, the sequencer idle with nothing owed. -/
theorem invariantHoldsAtReset : Obligations.InvariantHoldsAtReset := by
  intro c hwf
  exact {
    ring := ringInv_resetOf hwf
    buffers := bufferInv_resetOf c
    sequencer := sequencerInv_iff.2 ⟨flagsInv_resetOf c, .of_outside (by simp [State.resetOf]) rfl⟩ }

/-- The invariant says nothing of the schedule. -/
theorem Inv.sched {s : State} (h : Inv s) (later : List Event) : Inv { s with sched := later } where
  ring := { h.ring with }
  buffers := { h.buffers with }
  sequencer := { h.sequencer with }

/-- Every operation keeps the invariant. -/
theorem Inv.effect {s t : State} {i : Instr} (h : Inv s) (hi : i.isInternal = false) (he : Effect s i t) : Inv t := by
  obtain ⟨hflags, hframe⟩ := sequencerInv_iff.1 h.sequencer
  have hclamped : s.stage = .rVerify → s.lenEff = clampLen s.cfg s.lenWire :=
    fun hst => hframe.length (by rw [hst]; rfl)
  exact {
    ring := h.ring.effect he
    buffers := h.buffers.effect h.ring.cursors.1 hclamped hi he
    sequencer := sequencerInv_iff.2 ⟨hflags.effect hi he, hframe.effect he⟩ }

/-- Settles O48: a step moves the schedule, resets the device, or runs one operation. -/
theorem everyStepKeepsTheInvariant : Obligations.EveryStepKeepsTheInvariant := by
  intro s t h hstep
  rcases step_cases s with ⟨later, hs⟩ | ⟨later, -, hwf, hs⟩ | ⟨r, hs⟩ | ⟨i, later, hi, hs⟩
  · cases hs.symm.trans hstep; exact h.sched later
  · cases hs.symm.trans hstep; exact (invariantHoldsAtReset s.cfg hwf).sched later
  · cases hs.symm.trans hstep
  · exact (h.sched later).effect hi (exec_effect (hs.symm.trans hstep))

/-- The outcome is no fault. -/
def Faultless (o : Out) : Prop := ∀ f, o ≠ .fault f

theorem Faultless.next (s : State) : Faultless (.next s) := fun _ h => by cases h

theorem Faultless.refused (r : Refusal) : Faultless (.refused r) := fun _ h => by cases h

theorem Faultless.ite {c : Prop} [Decidable c] {a b : Out} (ha : c → Faultless a) (hb : ¬ c → Faultless b) :
    Faultless (if c then a else b) := by
  by_cases hc : c
  · rw [if_pos hc]; exact ha hc
  · rw [if_neg hc]; exact hb hc

theorem Faultless.clientCall {s : State} {k : Out} (h : Faultless k) : Faultless (clientCall s k) :=
  .ite (fun _ => h) fun _ => .refused _

theorem Faultless.readerPort {s : State} {k : Out} (h : Faultless k) : Faultless (readerPort s k) :=
  .ite (fun _ => .refused _) fun _ => .ite (fun _ => h) fun _ => .refused _

theorem Faultless.atStage {st : Stage} {s : State} {k : Out} (h : s.stage = st → Faultless k) :
    Faultless (atStage st s k) :=
  .ite (fun hst => h hst.1) fun _ => .refused _

theorem Faultless.deliver {s : State} (h : RingInv s) (bs : List Byte) : Faultless (deliver bs s) := by
  rw [deliver_next.2 ⟨h.cursors.2.1, rfl⟩]
  exact .next _

/-- R120: a dequeue finds its byte. -/
theorem Faultless.dequeue {s : State} {hold : Out} {k : Byte → State → Out} (h : RingInv s) (hhold : Faultless hold)
    (hk : ∀ b, Faultless (k b (advanceRd s))) : Faultless (dequeue s hold k) := by
  by_cases hne : s.rd = s.wr
  · rw [dequeue_of_empty hne]; exact hhold
  · obtain ⟨b, -, -, hlt, hb⟩ := h.nextByte hne
    rw [dequeue_of_byte hne hlt hb]; exact hk b

theorem Faultless.stageByte {st : Stage} {s : State} {k : Byte → State → Out} (h : RingInv s)
    (hk : s.stage = st → ∀ b, Faultless (k b (advanceRd s))) : Faultless (stageByte st s k) :=
  .atStage fun hst => .dequeue h (.next _) (hk hst)

/-- Consecutive reads inside an array of written bytes succeed. -/
theorem readBytes_of_written {sp : Space} {m : Memory} {size n : Nat} (hn : n ≤ size)
    (h : ∀ i < n, (m.get i).isSome = true) : ∃ bs, readBytes sp m size 0 n = .ok bs := by
  refine ⟨(List.range n).map fun i => (m.get i).getD 0, readBytes_ok.2 ⟨by simp, fun i hi => ?_⟩⟩
  simp only [List.length_map, List.length_range] at hi
  obtain ⟨b, hb⟩ := Option.isSome_iff_exists.1 (h i hi)
  simp only [Nat.zero_add, List.getElem_map, List.getElem_range, hb, Option.getD_some, and_true]
  omega

/-- R184, R264: what is retained can be sent. -/
theorem sendTxbuf_of_bufferInv {s : State} (h : BufferInv s) : ∃ t, sendTxbuf s = .ok t := by
  obtain ⟨bs, hbs⟩ := readBytes_of_written (sp := .txbuf) h.txLen h.txWritten
  exact ⟨_, sendTxbuf_ok.2 ⟨bs, hbs, rfl⟩⟩

/-- R180: a payload that fits is built and sent without a fault. -/
theorem Faultless.execWrite {s : State} (h : BufferInv s) (cls : FrameClass) (p : List Byte) (tmo : TmoSel) :
    Faultless (execWrite cls p tmo s) := by
  refine .clientCall (.ite (fun _ => .next _) fun hlen => ?_)
  have hfits : p.length ≤ s.cfg.txCap := Nat.le_of_not_lt hlen
  have hbuild : buildData cls p (discharge s) = .ok (storeFrame cls p (discharge s)) :=
    buildData_ok.2 ⟨by simpa using hfits, rfl⟩
  have hread : ∃ bs, readBytes .txbuf (storeFrame cls p s).txbuf (s.cfg.txCap + 6) 0 (6 + p.length) = .ok bs := by
    have hbuilt : BufferInv { storeFrame cls p s with stage := .idle } :=
      h.built (cls := cls) hfits rfl rfl rfl rfl rfl (by simp)
    exact readBytes_of_written hbuilt.txLen hbuilt.txWritten
  obtain ⟨bs, hbs⟩ := hread
  have hsend : ∃ u, sendTxbuf (storeFrame cls p (discharge s)) = .ok u :=
    ⟨_, sendTxbuf_ok.2 ⟨bs, by rw [storeFrame_discharge]; exact hbs, rfl⟩⟩
  obtain ⟨u, hu⟩ := hsend
  rw [hbuild, andThen, hu, andThen]
  exact .next _

/-- R116: a turn of `RDX` finds its byte. -/
theorem Faultless.rdxTurn {s : State} (h : RingInv s) (x : RdxTransfer) : Faultless (rdxTurn x s) :=
  .ite (fun _ => .next _) fun _ => .dequeue h (.next _) fun _ => .ite (fun _ => .next _) fun _ => .next _

theorem Faultless.execRdx {s : State} (h : RingInv s) (n : Nat) (tmo : TmoSel) : Faultless (execRdx n tmo s) := by
  refine .readerPort ?_
  split
  · exact .rdxTurn h _
  · exact .ite (fun _ => .rdxTurn h _) fun _ => .refused _

theorem Faultless.execTimeout (s : State) : Faultless (execTimeout s) := by
  refine .ite (fun _ => .next _) fun _ => ?_
  split
  · exact .refused _
  · exact .ite (fun _ => .next _) fun _ => .refused _

/-- R29, R31: in the stages that index `RXBUF` by the length, the length fits the buffer. -/
theorem lenEff_le_rxCap {s : State} (h : Inv s) (hst : s.stage.lengthKnown = true) :
    s.lenEff.toNat ≤ s.cfg.rxCap := by
  rw [h.sequencer.length hst, clampLen_toNat h.ring.cursors.1]
  exact Nat.min_le_right _ _

/-- R159: the payload counter is inside `RXBUF`. -/
theorem Faultless.execRPay {s : State} (h : Inv s) : Faultless (execRPay s) := by
  refine .stageByte h.ring fun hst b => .ite (fun _ => .ite (fun _ => .next _) fun _ => .next _) fun hcnt => ?_
  have hlen := lenEff_le_rxCap h (by rw [hst]; rfl)
  have hbelow := h.sequencer.payloadCount hst
  omega

/-- R158, R161: verify reads bytes that the checksum step has zeroed. -/
theorem Faultless.execRVerify {s : State} (h : Inv s) : Faultless (execRVerify s) := by
  refine .atStage fun hst => ?_
  have hlen := lenEff_le_rxCap h (by rw [hst]; rfl)
  obtain ⟨p, hp⟩ := readBytes_of_written (sp := .rxbuf) hlen fun i hi =>
    h.buffers.rxWritten (.inr hst) i (Nat.lt_of_lt_of_le hi hlen)
  rw [hp]
  exact .next _

/-- R217, R264: while a reply is awaited the retained frame can be sent again. -/
theorem Faultless.execWType {s : State} (h : Inv s) : Faultless (execWType s) := by
  refine .stageByte h.ring fun hst b => .ite (fun _ => .next _) fun _ => .ite (fun _ => .next _) fun _ =>
    .ite (fun _ => ?_) fun _ => .next _
  have hbuf : BufferInv { advanceRd s with b2b := false } := { h.buffers with }
  obtain ⟨u, hu⟩ := sendTxbuf_of_bufferInv hbuf
  rw [hu]
  exact .next _

/-- No operation that can be issued faults in the invariant. -/
theorem Faultless.exec {s : State} {i : Instr} (h : Inv s) (hi : i.isInternal = false) : Faultless (exec i s) := by
  have hframe : ∀ bs, encode s.cfg i = some bs → Faultless (Machine.exec i s) := fun bs hb => by
    rw [exec_of_encode hb]; exact .deliver h.ring bs
  cases i with
  | enq b => exact .deliver h.ring _
  | empty => exact .next _
  | avail => exact .next _
  | deq => exact .readerPort (.ite (fun _ => .dequeue h.ring (.next _) fun _ => .next _) fun _ => .refused _)
  | rdx n tmo => exact .execRdx h.ring n tmo
  | crcCfg | crcAcc | crcFin => exact .next _
  | read e tmo d => cases d <;> exact .clientCall (.next _)
  | write cls p tmo => exact .execWrite h.buffers cls p tmo
  | finalize => exact .clientCall (.next _)
  | abort => exact .clientCall (.ite (fun _ => .next _) fun _ => .next _)
  | maxpay => exact .clientCall (.next _)
  | rSeek => exact .stageByte h.ring fun _ _ => .ite (fun _ => .next _) fun _ => .next _
  | rType =>
    exact .stageByte h.ring fun _ _ => .ite (fun _ => .next _) fun _ => .ite (fun _ => .next _) fun _ => .next _
  | rLen => exact .stageByte h.ring fun _ _ => .ite (fun _ => .next _) fun _ => .next _
  | rCsum => exact .stageByte h.ring fun _ _ => .ite (fun _ => .next _) fun _ => .next _
  | rPay => exact .execRPay h
  | rVerify => exact .execRVerify h
  | wSeek => exact .stageByte h.ring fun _ _ => .ite (fun _ => .next _) fun _ => .next _
  | wType => exact .execWType h
  | timeout => exact .execTimeout s
  | discharge | respond | syncEmit | buildData | sendTxbuf | respEmit => cases hi
  | ack | nak | ackAbort | command | data | ping | pingResponse => exact hframe _ rfl

/-- Settles O49: of the things a step can be only an operation could fault, and none does. -/
theorem noFaultFromTheInvariant : Obligations.NoFaultFromTheInvariant := by
  intro s f h hstep
  rcases step_cases s with ⟨later, hs⟩ | ⟨later, -, -, hs⟩ | ⟨r, hs⟩ | ⟨i, later, hi, hs⟩
  · cases hs.symm.trans hstep
  · cases hs.symm.trans hstep
  · cases hs.symm.trans hstep
  · exact Faultless.exec (h.sched later) hi f (hs.symm.trans hstep)

end Sys2Proof.Machine
end

section
/-! The tables of the session (spec/44_session.md R202, R219, R220; spec/60_exceptions.md R231 to R243): which operation
moves which register, each read off `Effect`: O50 and O52 to O55. -/

namespace Sys2Proof.Machine

theorem owedBytes_of_none {s : State} (hack : s.ackOwed = false) (habort : s.abortOwed = false) :
    owedBytes s = [] := by
  simp [owedBytes, hack, habort]

/-- R41: what an operation emits is appended. -/
theorem Effect.tx_grows {s t : State} {i : Instr} (he : Effect s i t) : ∃ more, t.tx = s.tx ++ more := by
  cases he with
  | readValid | finalize | discharge => exact ⟨owedBytes s, rfl⟩
  | writeSent _ _ _ _ _ sent => exact ⟨owedBytes s ++ sent, List.append_assoc ..⟩
  | rTypeProbe _ _ answer => exact ⟨answer, rfl⟩
  | rVerifyNak => exact ⟨[s.cfg.sof, s.cfg.tNak], rfl⟩
  | wTypeNak _ _ sent => exact ⟨sent, rfl⟩
  | emitted _ bs => exact ⟨bs, rfl⟩
  | sendTxbuf bs => exact ⟨bs, rfl⟩
  | _ => exact ⟨[], (List.append_nil _).symm⟩

/-- R38, R243: with `flt = 1` only the producer, the CRC registers and the answer of a port move; every other operation
needs `flt = 0`. -/
theorem Effect.of_faulted {s t : State} {i : Instr} (hflt : s.flt = true) (hi : i.isInternal = false)
    (he : Effect s i t) : t = { s with
      ring := t.ring, wr := t.wr, portRet := t.portRet, crcAcc := t.crcAcc, crcPoly := t.crcPoly, crcInit := t.crcInit
      crcRefin := t.crcRefin, crcRefout := t.crcRefout, crcXorout := t.crcXorout } := by
  have hno : s.flt ≠ false := by simp [hflt]
  cases he with
  | enq | frame | answer | crcCfg | crcAcc | hold => rfl
  | deq hfree | readNull _ _ hfree | readValid _ _ hfree | writeTooLong _ _ _ hfree | writeSent _ _ _ hfree
  | finalize hfree | abortOwed hfree | abortFault hfree | maxpay hfree => exact absurd hfree.2.1 hno
  | timeoutCall _ hflt' | timeoutRdx hflt' => exact absurd hflt' hno
  | discharge | buildData | sendTxbuf => cases hi
  | emitted hint => rw [hi] at hint; cases hint
  | rdxWait _ _ hst | rdxTake _ _ hst => exact absurd hst.2 hno
  | rSeekMarker hst | rSeekDrop hst | rTypeProbe hst | rTypeAccept hst | rTypeMismatch hst | rLenLow hst
  | rLenHigh hst | rCsumLow hst | rCsumEmpty hst | rCsumPayload hst | rPayLast hst | rPayMore hst | rVerifyMatch hst
  | rVerifyNak hst | wSeekMarker hst | wSeekDrop hst | wTypeAck hst | wTypeAckAbort hst | wTypeNak hst
  | wTypeForeign hst => exact absurd hst.2 hno

/-- Settles O50: the schedule's own moves touch nothing else, and an operation is read off `Effect`. -/
theorem configurationFixedStreamGrowsFaultSticks : Obligations.ConfigurationFixedStreamGrowsFaultSticks := by
  intro s t hstep
  rcases step_cases s with ⟨later, hs⟩ | ⟨later, hreset, -, hs⟩ | ⟨r, hs⟩ | ⟨i, later, hi, hs⟩
  · cases hs.symm.trans hstep
    exact ⟨rfl, fun _ => ⟨⟨[], (List.append_nil _).symm⟩, fun _ => rfl⟩⟩
  · cases hs.symm.trans hstep
    exact ⟨rfl, fun hno => absurd hreset (hno later)⟩
  · cases hs.symm.trans hstep
  · have he := exec_effect (hs.symm.trans hstep)
    refine ⟨he.ring_cases.1, fun _ => ⟨he.tx_grows, fun hflt => ?_⟩⟩
    have hframe := he.of_faulted (by exact hflt) hi
    have hsched : t.sched = later := congrArg State.sched hframe
    rw [hsched]
    exact hframe

/-- Settles O52: the other operations leave `tx` as it is. -/
theorem onlyDischargingAndReplyingStepsEmit : Obligations.OnlyDischargingAndReplyingStepsEmit := by
  intro s t i hi h htx
  cases exec_effect h with
  | readValid e tmo => exact .inl ⟨e, tmo, rfl⟩
  | writeSent cls p tmo => exact .inr (.inl ⟨cls, p, tmo, rfl⟩)
  | finalize | rTypeProbe | rVerifyNak | wTypeNak => exact .inr (.inr (by simp))
  | discharge | sendTxbuf => cases hi
  | emitted hint => rw [hi] at hint; cases hint
  | _ => exact absurd rfl htx

/-- Settles O53: the operations that write `result`, each with its guard. -/
theorem eachResultHasItsCause : Obligations.EachResultHasItsCause := by
  intro s t i h hres
  cases exec_effect h with
  | readNull e tmo => exact .inl ⟨rfl, .inl ⟨e, tmo, rfl⟩⟩
  | writeTooLong cls p tmo _ hlen => exact .inl ⟨rfl, .inr ⟨cls, p, tmo, rfl, hlen⟩⟩
  | timeoutCall hst _ htmo himpl hempty => exact .inr (.inl ⟨rfl, rfl, hst, htmo, himpl, hempty⟩)
  | rTypeMismatch _ _ hb hping hexp => exact .inr (.inr (.inl ⟨rfl, _, hb, .inl ⟨rfl, hping, hexp⟩⟩))
  | wTypeForeign _ _ hb hother => exact .inr (.inr (.inl ⟨rfl, _, hb, .inr ⟨rfl, hother⟩⟩))
  | wTypeAckAbort _ _ hb => exact .inr (.inr (.inr (.inl ⟨rfl, rfl, hb⟩)))
  | finalize => exact .inr (.inr (.inr (.inr ⟨rfl, .inl rfl⟩)))
  | maxpay => exact .inr (.inr (.inr (.inr ⟨rfl, .inr (.inl rfl)⟩)))
  | abortOwed _ hack => exact .inr (.inr (.inr (.inr ⟨rfl, .inr (.inr (.inl ⟨rfl, hack⟩))⟩)))
  | rVerifyMatch => exact .inr (.inr (.inr (.inr ⟨rfl, .inr (.inr (.inr (.inl ⟨rfl, rfl⟩)))⟩)))
  | wTypeAck _ _ hb => exact .inr (.inr (.inr (.inr ⟨rfl, .inr (.inr (.inr (.inr ⟨rfl, hb⟩)))⟩)))
  | _ => exact absurd rfl hres

/-- Settles O54: the three discharging calls clear the pair and emit first; verify and `ABORT` are silent. -/
theorem owedPairMovesOnlyAsTabled : Obligations.OwedPairMovesOnlyAsTabled := by
  intro s t i hi howed hcall h
  obtain ⟨hnoAck, hnoAbort⟩ := discharge_owed howed
  cases exec_effect h with
  | readValid e tmo => exact .inr (.inr (.inr ⟨.inl ⟨e, tmo, rfl⟩, hnoAck, hnoAbort, [], (List.append_nil _).symm⟩))
  | writeSent cls p tmo _ _ sent => exact .inr (.inr (.inr ⟨.inr (.inl ⟨cls, p, tmo, rfl⟩), hnoAck, hnoAbort, sent, rfl⟩))
  | finalize => exact .inr (.inr (.inr ⟨.inr (.inr rfl), hnoAck, hnoAbort, [], (List.append_nil _).symm⟩))
  | rVerifyMatch hst =>
    obtain ⟨hack, habort⟩ := hcall (by simp [hst.1])
    exact .inr (.inl ⟨rfl, hack, habort, rfl, habort, rfl⟩)
  | abortOwed _ hack =>
    have habort : s.abortOwed = false := Bool.eq_false_iff.mpr fun hab => howed ⟨hack, hab⟩
    exact .inr (.inr (.inl ⟨rfl, hack, habort, rfl, rfl, rfl⟩))
  | discharge => cases hi
  | _ => exact .inl ⟨rfl, rfl⟩

/-- R201: a discharge that moves `b2b` raises it, and something was owed. -/
theorem discharge_raises_b2b {s : State} (h : (discharge s).b2b ≠ s.b2b) :
    (discharge s).b2b = true ∧ owedBytes s ≠ [] := by
  rw [discharge_b2b] at h ⊢
  cases hack : s.ackOwed with
  | true => simp [owedBytes, hack]
  | false =>
    cases habort : s.abortOwed with
    | true => simp [owedBytes, hack, habort]
    | false => simp [hack, habort] at h

/-- Settles O55: `b2b` rises with a discharge or a NAK and falls in `WRITE`, `W_TYPE` and on a byte that is no probe. -/
theorem backToBackFlagMovesOnlyAsTabled : Obligations.BackToBackFlagMovesOnlyAsTabled := by
  intro s t i hi h hb2b
  cases exec_effect h with
  | readValid e tmo =>
    obtain ⟨hraised, howes⟩ := discharge_raises_b2b hb2b
    exact .inl ⟨hraised, howes, rfl, .inl ⟨e, tmo, rfl⟩⟩
  | finalize =>
    obtain ⟨hraised, howes⟩ := discharge_raises_b2b hb2b
    exact .inl ⟨hraised, howes, rfl, .inr rfl⟩
  | rVerifyNak => exact .inr (.inl ⟨rfl, rfl, rfl⟩)
  | writeSent cls p tmo => exact .inr (.inr ⟨rfl, .inl ⟨cls, p, tmo, rfl⟩⟩)
  | wTypeAck | wTypeAckAbort | wTypeNak | wTypeForeign => exact .inr (.inr ⟨rfl, .inr (.inl rfl)⟩)
  | rTypeAccept _ _ hb hping | rTypeMismatch _ _ hb hping =>
    exact .inr (.inr ⟨rfl, .inr (.inr ⟨rfl, by rw [hb]; simpa using hping⟩)⟩)
  | discharge | sendTxbuf => cases hi
  | _ => exact absurd rfl hb2b

end Sys2Proof.Machine
end

section
/-! Instantiation (spec/00_scope.md R7, spec/40_ring_buffer.md R110): O2. -/

namespace Sys2Proof.Machine

/-- Settles O2: `Config.wf` decides the four clauses. -/
theorem instantiationRefusesExactlyIllFormedConfigurations :
    Obligations.InstantiationRefusesExactlyIllFormedConfigurations := by
  intro c
  constructor
  · intro hclauses
    exact if_pos (c.wf_iff.2 hclauses)
  · intro hclauses
    have hnot : ¬ c.wf = true := fun hwf => hclauses (c.wf_iff.1 hwf)
    refine ⟨if_neg hnot, fun s hs => ?_⟩
    rw [← hs] at hnot
    exact if_neg hnot

end Sys2Proof.Machine
end

section
/-! The ring as a queue (spec/20_memory.md R72, spec/40_ring_buffer.md R113, R114, R270): what `ENQ` and `DEQ` do to the
visible bytes; O5, O6, O8, O9 and O40 from it. -/

namespace Sys2Proof.Machine

/-- The slots of the visible bytes are not the one `wr` names. -/
theorem ringSlot_ne_wr {s : State} (h : CursorsOk s) {i : Nat} (hi : i < ringAvail s) : ringSlot s i ≠ s.wr := by
  have hcap := ringAvail_lt h
  have hwr := h.2
  rw [ringSlot_eq h (by omega)]
  rw [ringAvail_eq h] at hi
  split_ifs at hi ⊢ <;> omega

theorem ringContents_length (s : State) : (ringContents s).length = ringAvail s := by
  simp [ringContents]

/-- An empty ring shows nothing. -/
theorem ringContents_of_empty {s : State} (h : ringAvail s = 0) : ringContents s = [] := by
  simp [ringContents, h]

/-- R72 item 1, the producer's half: without an overflow the byte joins the end. -/
theorem ringContents_enqueue {s : State} (h : CursorsOk s) (hroom : ringAvail s ≠ s.cfg.cap - 1) (b : Byte) :
    ringContents (enqueue s b) = ringContents s ++ [some b] := by
  have hslot : ∀ i, ringSlot (enqueue s b) i = ringSlot s i := fun _ => rfl
  have hlast : (enqueue s b).ring.get (ringSlot s (ringAvail s)) = some b := by
    rw [ringSlot_ringAvail h]; exact Memory.get_put_same s.ring s.wr b
  have hold : ∀ i ∈ List.range (ringAvail s), (enqueue s b).ring.get (ringSlot s i) = s.ring.get (ringSlot s i) :=
    fun i hi => Memory.get_put_other s.ring s.wr _ b (ringSlot_ne_wr h (List.mem_range.1 hi))
  rw [ringContents, ringAvail_enqueue h, if_neg hroom, List.range_succ, List.map_append]
  simp only [hslot, List.map_cons, List.map_nil, hlast, ringContents]
  rw [List.map_congr_left hold]

/-- R113: the byte at `rd` is the oldest one, and a dequeue leaves the others. -/
theorem ringContents_of_nonempty {s : State} (h : CursorsOk s) (hne : s.rd ≠ s.wr) :
    ringContents s = s.ring.get s.rd :: ringContents (advanceRd s) := by
  have hfirst : ringSlot s 0 = s.rd := by rw [ringSlot, Nat.add_zero, Nat.mod_eq_of_lt h.2.2]
  rw [ringContents, ringAvail_advanceRd h hne, List.range_succ_eq_map, List.map_cons, hfirst, List.map_map, ringContents]
  simp only [ringSlot_advanceRd h, advanceRd_ring]
  rfl

/-- A visible first byte is the next one to read, and what follows it stays. -/
theorem nextByte_of_ringContents {s : State} {b : Byte} {rest : List (Option Byte)} (h : CursorsOk s)
    (hcontents : ringContents s = some b :: rest) : NextByte s b ∧ ringContents (advanceRd s) = rest := by
  have hne : s.rd ≠ s.wr := fun heq => by
    rw [ringContents_of_empty ((ringAvail_eq_zero h).2 heq)] at hcontents
    cases hcontents
  rw [ringContents_of_nonempty h hne] at hcontents
  obtain ⟨hb, hrest⟩ := List.cons.inj hcontents
  exact ⟨⟨h.1, hne, h.2.2, hb⟩, hrest⟩

/-- Settles O5. -/
theorem enqAppendsWhereNoOverflow : Obligations.EnqAppendsWhereNoOverflow := by
  intro s b h hroom
  have hne : ringAvail s ≠ s.cfg.cap - 1 := Nat.ne_of_lt hroom
  refine ⟨enqueue s b, exec_enq h.2.1 b, ringContents_enqueue h hne b, ?_, rfl⟩
  rw [ringAvail_enqueue h, if_neg hne]

/-- R113 in a free block. -/
theorem exec_deq_of_nextByte {s : State} {b : Byte} (hfree : ClientFree s) (hnext : NextByte s b) :
    exec .deq s = .next { s with rd := (s.rd + 1) % s.cfg.cap, portRet := .byte b } := by
  obtain ⟨hstage, hflt, hrdx⟩ := hfree
  obtain ⟨hwf, hne, hlt, hb⟩ := hnext
  change execDeq s = _
  rw [execDeq, readerPort_of_free hstage hflt, if_pos hrdx, dequeue_of_byte hne hlt hb, advanceRd_eq hwf]

/-- Settles O6. -/
theorem deqReturnsTheOldestByte : Obligations.DeqReturnsTheOldestByte := by
  intro s b rest h hfree hcontents
  obtain ⟨hnext, hrest⟩ := nextByte_of_ringContents h hcontents
  refine ⟨_, exec_deq_of_nextByte hfree hnext, ?_, rfl⟩
  rw [← hrest]
  exact ringContents_congr rfl rfl (cursorNext_eq h.1 s.rd).symm rfl

/-- Settles O8: the occupancy after the `ENQ` is zero, which is `wr = rd`. -/
theorem overflowingEnqEmptiesTheRing : Obligations.OverflowingEnqEmptiesTheRing := by
  intro s b h hover
  have hnone : ringAvail (enqueue s b) = 0 := (ringAvail_enqueue h b).trans (if_pos hover)
  have hwr : (enqueue s b).wr = s.rd := ((ringAvail_eq_zero (cursorsOk_enqueue h b)).1 hnone).symm
  refine ⟨enqueue s b, exec_enq h.2.1 b, hwr, ringContents_of_empty hnone, Memory.get_put_same .., ?_⟩
  exact (enqueue_frame s b).trans (by rw [hwr])

/-- R95: one `ENQ` for each byte is the delivery of the bytes. -/
theorem runOps_map_enq (bs : List Byte) {s : State} (hwf : s.cfg.wf = true) (hwr : s.wr < s.cfg.cap) :
    runOps (bs.map .enq) s = .next (bs.foldl enqueue s) := by
  induction bs generalizing s with
  | nil => rfl
  | cons b bs ih =>
    rw [List.map_cons, runOps_cons_of_next (exec_enq hwr b), List.foldl_cons]
    exact ih (s := enqueue s b) hwf (cursorNext_lt hwf s.wr)

theorem cursorsOk_foldl_enqueue {s : State} (h : CursorsOk s) (bs : List Byte) : CursorsOk (bs.foldl enqueue s) := by
  induction bs generalizing s with
  | nil => exact h
  | cons b bs ih => exact ih (cursorsOk_enqueue h b)

/-- R62: the write cursor moves on by the number of bytes. -/
theorem foldl_enqueue_wr (bs : List Byte) {s : State} (hwf : s.cfg.wf = true) (hwr : s.wr < s.cfg.cap) :
    (bs.foldl enqueue s).wr = (s.wr + bs.length) % s.cfg.cap := by
  induction bs generalizing s with
  | nil => exact (Nat.mod_eq_of_lt hwr).symm
  | cons b bs ih =>
    rw [List.foldl_cons, ih (s := enqueue s b) hwf (cursorNext_lt hwf s.wr), List.length_cons]
    simp only [enqueue_wr, enqueue_cfg, cursorNext_eq hwf, Nat.mod_add_mod]
    congr 1
    omega

/-- Settles O40: a frame row is the delivery of its encoding. -/
theorem frameArrivalIsItsBytesEnqueued : Obligations.FrameArrivalIsItsBytesEnqueued := by
  intro s k p r hwf hwr f hf
  have hencode : encode s.cfg f.1 = some f.2 := by
    simp only [List.mem_cons, List.not_mem_nil, or_false] at hf
    rcases hf with rfl | rfl | rfl | rfl | rfl | rfl | rfl <;> rfl
  exact ⟨hencode, f.2.foldl enqueue s, (exec_of_encode hencode).trans (deliver_next.2 ⟨hwr, rfl⟩),
    runOps_map_enq f.2 hwf hwr, foldl_enqueue_wr f.2 hwf hwr, foldl_enqueue_frame f.2 s⟩

/-- R270 item 3 by induction on the last byte: it joins the visible ones, or at a full turn empties the ring. -/
theorem ringContents_foldl_enqueue {s : State} (h : CursorsOk s) (hempty : s.rd = s.wr) (bs : List Byte) :
    ringAvail (bs.foldl enqueue s) = bs.length % s.cfg.cap ∧
      ringContents (bs.foldl enqueue s) = (bs.drop (bs.length / s.cfg.cap * s.cfg.cap)).map some := by
  induction bs using List.reverseRecOn with
  | nil =>
    have hnone := (ringAvail_eq_zero h).2 hempty
    exact ⟨by simpa using hnone, by simpa using ringContents_of_empty hnone⟩
  | append_singleton bs b ih =>
    obtain ⟨havail, hcontents⟩ := ih
    have hcur := cursorsOk_foldl_enqueue h bs
    have hcfg := foldl_enqueue_cfg bs s
    have hcap := Config.wf_cap_ge h.1
    have hdivMod := Nat.div_add_mod' bs.length s.cfg.cap
    have hmodLt := Nat.mod_lt bs.length (show 0 < s.cfg.cap by omega)
    rw [List.foldl_append, List.foldl_cons, List.foldl_nil, List.length_append, List.length_singleton]
    by_cases hfull : ringAvail (bs.foldl enqueue s) = (bs.foldl enqueue s).cfg.cap - 1
    case pos =>
      have hnone : ringAvail (enqueue (bs.foldl enqueue s) b) = 0 := by rw [ringAvail_enqueue hcur, if_pos hfull]
      rw [havail, hcfg] at hfull
      have hturn : bs.length + 1 = (bs.length / s.cfg.cap + 1) * s.cfg.cap := by rw [Nat.add_mul]; omega
      refine ⟨hnone.trans ?_, (ringContents_of_empty hnone).trans ?_⟩
      · rw [hturn, Nat.mul_mod_left]
      · rw [Nat.div_mul_cancel ⟨_, hturn.trans (Nat.mul_comm ..)⟩, List.drop_of_length_le (by simp)]
        rfl
    case neg =>
      have havail' := ringAvail_enqueue hcur b
      rw [if_neg hfull, havail] at havail'
      rw [havail, hcfg] at hfull
      have hmod : (bs.length + 1) % s.cfg.cap = bs.length % s.cfg.cap + 1 := by
        rw [Nat.add_mod, Nat.mod_eq_of_lt (show 1 < s.cfg.cap by omega), Nat.mod_eq_of_lt (by omega)]
      have hdiv : (bs.length + 1) / s.cfg.cap * s.cfg.cap = bs.length / s.cfg.cap * s.cfg.cap := by
        have := Nat.div_add_mod' (bs.length + 1) s.cfg.cap
        omega
      refine ⟨havail'.trans hmod.symm, ?_⟩
      rw [ringContents_enqueue hcur (by rw [havail, hcfg]; exact hfull), hcontents, hdiv,
        List.drop_append_of_le_length (by omega), List.map_append]
      rfl

/-- Settles O9. -/
theorem burstIntoEmptyRingKeepsTheNewest : Obligations.BurstIntoEmptyRingKeepsTheNewest := by
  intro s bs h hempty
  obtain ⟨havail, hcontents⟩ := ringContents_foldl_enqueue h hempty bs
  exact ⟨_, runOps_map_enq bs h.1 h.2.1, havail, hcontents, foldl_enqueue_frame bs s⟩

end Sys2Proof.Machine
end

section
/-! `RDX` and its turns (spec/40_ring_buffer.md R116; log 10): O7, O10 and O11. -/

namespace Sys2Proof.Machine

/-- The block can take a turn of the transfer `x`: it is the one in progress, or it begins now. -/
def Transfers (s : State) (x : RdxTransfer) : Prop :=
  InStage s .idle ∧ (s.rdx = some x ∨ (s.rdx = none ∧ x.got = []))

/-- A block with no transfer can begin one. -/
theorem transfers_of_free {s : State} (hfree : ClientFree s) (n : Nat) (tmo : TmoSel) :
    Transfers s { want := n, tmo := tmo, got := [] } :=
  ⟨⟨hfree.1, hfree.2.1⟩, .inr ⟨hfree.2.2, rfl⟩⟩

/-- R116: each scheduling of `RDX` is one turn of its loop. -/
theorem exec_rdx {s : State} {x : RdxTransfer} (h : Transfers s x) : exec (.rdx x.want x.tmo) s = rdxTurn x s := by
  obtain ⟨⟨hstage, hflt⟩, hx | ⟨hnone, hgot⟩⟩ := h
  · change execRdx x.want x.tmo s = _
    simp [execRdx, readerPort_of_free hstage hflt, hx]
  · obtain ⟨want, tmo, got⟩ := x
    cases hgot
    change execRdx want tmo s = _
    simp [execRdx, readerPort_of_free hstage hflt, hnone]

/-- R114: a turn that wants a byte of an empty ring records the transfer and moves nothing. -/
theorem rdxTurn_of_empty {s : State} {x : RdxTransfer} (hwant : x.got.length < x.want) (hempty : s.rd = s.wr) :
    rdxTurn x s = .next { s with rdx := some x } := by
  rw [rdxTurn, if_neg (Nat.ne_of_lt hwant), dequeue_of_empty hempty]

/-- R116: a turn takes the byte; with the last one the transfer ends `OK`. -/
theorem rdxTurn_of_nextByte {s : State} {x : RdxTransfer} {b : Byte} (hwant : x.got.length < x.want)
    (hnext : NextByte s b) : rdxTurn x s = .next { s with
      rd := (s.rd + 1) % s.cfg.cap
      portRet := if x.got.length + 1 = x.want then .bytes (x.got ++ [b]) else s.portRet
      rdx := if x.got.length + 1 = x.want then none else some { x with got := x.got ++ [b] } } := by
  obtain ⟨hwf, hne, hlt, hb⟩ := hnext
  rw [rdxTurn, if_neg (Nat.ne_of_lt hwant), dequeue_of_byte hne hlt hb, advanceRd_eq hwf]
  simp only [List.length_append, List.length_singleton, rdxDone]
  split <;> rfl

/-- R114 in the seven reading stages. -/
theorem stageByte_of_empty {s : State} {st : Stage} (hst : InStage s st) (hempty : s.rd = s.wr)
    (k : Byte → State → Out) : stageByte st s k = .next s := by
  rw [stageByte, atStage_of_inStage hst, dequeue_of_empty hempty]

/-- Settles O7: every reader goes through `dequeue`, which holds. -/
theorem emptyRingHoldsEveryReader : Obligations.EmptyRingHoldsEveryReader := by
  intro s hempty
  refine ⟨?deq, ?first, ?later, ?stages⟩
  case deq =>
    rintro ⟨hstage, hflt, hrdx⟩
    change execDeq s = _
    rw [execDeq, readerPort_of_free hstage hflt, if_pos hrdx, dequeue_of_empty hempty]
  case first =>
    intro n tmo hfree hn
    exact (exec_rdx (transfers_of_free hfree n tmo)).trans (rdxTurn_of_empty hn hempty)
  case later =>
    intro x hst hx hwant
    rw [exec_rdx ⟨hst, .inl hx⟩, rdxTurn_of_empty hwant hempty, ← hx]
  case stages =>
    intro p hp hst
    simp only [List.mem_cons, List.not_mem_nil, or_false] at hp
    rcases hp with rfl | rfl | rfl | rfl | rfl | rfl | rfl <;> exact stageByte_of_empty hst hempty _

/-- Settles O10. -/
theorem rdxTurnTakesOneByte : Obligations.RdxTurnTakesOneByte := by
  intro s n tmo b hnext hfree hn
  have hturn := (exec_rdx (transfers_of_free hfree n tmo)).trans (rdxTurn_of_nextByte hn hnext)
  have hlast : ([] : List Byte).length + 1 = n ↔ n = 1 := by simp [eq_comm]
  simp only [hlast] at hturn
  exact hturn

/-- R116 by induction on the bytes still wanted: each turn takes the first of them, the last one ends the transfer. -/
theorem runOps_rdx {bs : List Byte} (hbs : bs ≠ []) {s : State} {x : RdxTransfer} {rest : List (Option Byte)}
    (h : CursorsOk s) (htransfer : Transfers s x) (hwant : x.got.length + bs.length = x.want)
    (hcontents : ringContents s = bs.map some ++ rest) :
    ∃ t, runOps (List.replicate bs.length (.rdx x.want x.tmo)) s = .next t ∧ ringContents t = rest ∧
      t = { s with rd := t.rd, portRet := .bytes (x.got ++ bs), rdx := none } := by
  induction bs generalizing s x with
  | nil => exact absurd rfl hbs
  | cons b bs ih =>
    obtain ⟨hnext, hrest⟩ := nextByte_of_ringContents h hcontents
    have hlt : x.got.length < x.want := by rw [← hwant]; simp
    have hturn := (exec_rdx htransfer).trans (rdxTurn_of_nextByte hlt hnext)
    rw [List.length_cons] at hwant
    rw [List.length_cons, List.replicate_succ, runOps_cons_of_next hturn]
    by_cases hlast : bs = []
    case pos =>
      subst hlast
      have hend : x.got.length + 1 = x.want := hwant
      simp only [hend, if_true]
      refine ⟨_, rfl, Eq.trans ?_ hrest, rfl⟩
      exact ringContents_congr rfl rfl (cursorNext_eq h.1 s.rd).symm rfl
    case neg =>
      have hpos := List.length_pos_iff.2 hlast
      have hmore : ¬ x.got.length + 1 = x.want := by omega
      simp only [hmore, if_false]
      have hadv : CursorsOk (advanceRd s) := cursorsOk_advanceRd h
      rw [advanceRd_eq h.1] at hadv hrest
      obtain ⟨t, hrun, hleft, hframe⟩ := ih (x := { x with got := x.got ++ [b] }) hlast
        (s := { s with rd := (s.rd + 1) % s.cfg.cap, rdx := some { x with got := x.got ++ [b] } })
        hadv ⟨htransfer.1, .inl rfl⟩ (by simp; omega) hrest
      refine ⟨t, hrun, hleft, ?_⟩
      rw [List.append_cons]
      exact hframe

/-- Settles O11: `RDX 0` ends in its first turn, any other is `runOps_rdx` from no bytes. -/
theorem rdxReturnsTheFirstBytesInOrder : Obligations.RdxReturnsTheFirstBytesInOrder := by
  intro s tmo bs rest h hfree hcontents
  by_cases hbs : bs = []
  case pos =>
    subst hbs
    have hturn : exec (.rdx 0 tmo) s = .next { s with portRet := .bytes [], rdx := none } :=
      exec_rdx (transfers_of_free hfree 0 tmo)
    refine ⟨_, runOps_cons_of_next hturn [], ?_, ?_⟩
    · exact hcontents
    · rw [← hfree.2.2]
  case neg =>
    have hmax : max bs.length 1 = bs.length := Nat.max_eq_left (List.length_pos_iff.2 hbs)
    obtain ⟨t, hrun, hleft, hframe⟩ :=
      runOps_rdx hbs h (transfers_of_free hfree bs.length tmo) (by simp) hcontents
    refine ⟨t, by rw [hmax]; exact hrun, hleft, ?_⟩
    rw [← hfree.2.2] at hframe
    exact hframe

end Sys2Proof.Machine
end

section
/-! The time-out draw (spec/40_ring_buffer.md R118) and the operations without a step (spec/10_state.md R38, R42, R43):
O12, O13, O21 and O35. -/

namespace Sys2Proof.Machine

/-- R117: the five bounded stages. -/
theorem Stage.bounded_iff (st : Stage) : st.bounded = true ↔
    st = .rType ∨ st = .rLen ∨ st = .rCsum ∨ st = .rPay ∨ st = .wType := by
  cases st <;> simp [Stage.bounded]

theorem waitMayExpire_iff {s : State} {tmo : TmoSel} : waitMayExpire s tmo = true ↔
    tmo = .bounded ∧ s.cfg.timeoutImpl = true ∧ s.rd = s.wr := by
  simp [waitMayExpire, ringEmpty, and_assoc]

/-- R118: the guard of the draw in a call. -/
theorem drawEnabled_iff {s : State} : drawEnabled s = true ↔
    (s.stage = .rType ∨ s.stage = .rLen ∨ s.stage = .rCsum ∨ s.stage = .rPay ∨ s.stage = .wType) ∧
      s.flt = false ∧ s.tmo = .bounded ∧ s.cfg.timeoutImpl = true ∧ s.rd = s.wr := by
  simp only [drawEnabled, Bool.and_eq_true, Stage.bounded_iff, waitMayExpire_iff, Bool.not_eq_true', and_assoc]

/-- R118: the draw where its guard holds. -/
theorem exec_timeout_of_enabled {s : State} (h : drawEnabled s = true) :
    exec .timeout s = .next { s with result := .timeout, stage := .idle } := if_pos h

/-- R116: where the draw of a call is not enabled, an `RDX` that may expire does. -/
theorem exec_timeout_of_rdx {s : State} {x : RdxTransfer} (h : ¬ drawEnabled s = true) (hx : s.rdx = some x)
    (hflt : s.flt = false) (hexpire : waitMayExpire s x.tmo = true) :
    exec .timeout s = .next { s with portRet := .timedOut x.got, rdx := none } := by
  change execTimeout s = _
  simp [execTimeout, h, hx, hflt, hexpire]

/-- R118: with neither guard there is no step. -/
theorem exec_timeout_of_disabled {s : State} (h : ¬ drawEnabled s = true)
    (hrdx : ∀ x, s.rdx = some x → ¬ (s.flt = false ∧ waitMayExpire s x.tmo = true)) :
    exec .timeout s = .refused .drawNotEnabled := by
  change execTimeout s = _
  rw [execTimeout, if_neg h]
  cases hx : s.rdx with
  | none => rfl
  | some x => exact if_neg (hrdx x hx)

/-- Settles O12. -/
theorem timeoutDrawEndsABoundedWait : Obligations.TimeoutDrawEndsABoundedWait := by
  intro s
  refine ⟨fun hguard => exec_timeout_of_enabled (drawEnabled_iff.2 hguard), fun hguard hrdx => ?_⟩
  refine exec_timeout_of_disabled (mt drawEnabled_iff.1 hguard) fun x hx => ?_
  rw [waitMayExpire_iff]
  exact hrdx x hx

/-- Settles O13: between calls the draw of a call is not enabled. -/
theorem rdxTimeoutGivesNothingBack : Obligations.RdxTimeoutGivesNothingBack := by
  intro s x hst hx htmo himpl hempty
  have hnoCall : ¬ drawEnabled s = true := by simp [drawEnabled_iff, hst.1]
  exact exec_timeout_of_rdx hnoCall hx hst.2 (waitMayExpire_iff.2 ⟨htmo, himpl, hempty⟩)

/-- R42: a block that is not free refuses every client call. -/
theorem clientCall_of_not_free {s : State} (h : ¬ ClientFree s) (k : Out) :
    clientCall s k = .refused .callNotAccepted :=
  if_neg (mt clientMayCall_iff.1 h)

/-- R38: with `flt = 1` the consumer port has no step. -/
theorem readerPort_of_faulted {s : State} (h : s.flt = true) (k : Out) : readerPort s k = .refused .sequencerFaulted :=
  if_pos h

/-- R43: inside a call the sequencer is the reader. -/
theorem readerPort_of_busy {s : State} (hflt : s.flt = false) (hst : s.stage ≠ .idle) (k : Out) :
    readerPort s k = .refused .secondReader :=
  (if_neg (by simp [hflt])).trans (if_neg hst)

/-- Settles O21: the guards of the two ports, and of the draw. -/
theorem busyOrFaultedBlockRefusesClientCalls : Obligations.BusyOrFaultedBlockRefusesClientCalls := by
  intro s
  refine ⟨fun hbusy => ?client, fun hflt => ?faulted, fun hflt hst => ?busy, fun x hst hx => ?second⟩
  case client =>
    exact ⟨fun _ _ _ => clientCall_of_not_free hbusy _, fun _ _ _ => clientCall_of_not_free hbusy _,
      clientCall_of_not_free hbusy _, clientCall_of_not_free hbusy _, clientCall_of_not_free hbusy _⟩
  case faulted =>
    refine ⟨readerPort_of_faulted hflt _, fun _ _ => readerPort_of_faulted hflt _, ?_⟩
    exact exec_timeout_of_disabled (by simp [drawEnabled_iff, hflt]) (by simp [hflt])
  case busy => exact ⟨readerPort_of_busy hflt hst _, fun _ _ => readerPort_of_busy hflt hst _⟩
  case second =>
    obtain ⟨hstage, hflt⟩ := hst
    refine ⟨(readerPort_of_free hstage hflt).trans (if_neg (by simp [hx])), fun n tmo hother => ?_⟩
    change execRdx n tmo s = _
    rw [execRdx, readerPort_of_free hstage hflt, hx]
    exact if_neg hother

/-- Settles O35: all eight stage steps stand behind `atStage`. -/
theorem stageStepsNeedTheirStage : Obligations.StageStepsNeedTheirStage := by
  intro s p hp hno
  have hguard : ¬ (s.stage = p.1 ∧ s.flt = false) := by
    rintro ⟨hst, hflt⟩
    rcases hno with hother | hfaulted
    · exact hother hst
    · rw [hflt] at hfaulted; cases hfaulted
  simp only [List.mem_cons, List.not_mem_nil, or_false] at hp
  rcases hp with rfl | rfl | rfl | rfl | rfl | rfl | rfl | rfl <;> exact if_neg hguard

end Sys2Proof.Machine
end

section
/-! The accepting client calls and the emitters (spec/42_frame_decoder.md R150, spec/43_frame_encoder.md R180 to R185,
spec/41_crc16.md R131, R138): O14, O20, O22 and O37. -/

namespace Sys2Proof.Machine

theorem exec_crcCfg (poly init : U16) (refin refout : Bool) (xorout : U16) (s : State) :
    exec (.crcCfg poly init refin refout xorout) s = .next (crcConfigure poly init refin refout xorout s) := rfl

/-- Settles O14: the three calls are `crcRun` and its answer. -/
theorem crcEngineComputesCrcSixteen : Obligations.CrcEngineComputesCrcSixteen := by
  intro s poly init xorout refin refout bs
  refine ⟨exec_crcCfg .., ?_⟩
  have hfin : exec .crcFin (crcRun bs s) = .next { crcRun bs s with portRet := .word (crc16 bs) } := by
    rw [exec_crcFin, crcValue_crcRun]
  calc runOps [.crcCfg 0x1021 0 false false 0, .crcAcc bs, .crcFin] s
      = runOps [.crcFin] (crcRun bs s) := rfl
    _ = .next { crcRun bs s with portRet := .word (crc16 bs) } := runOps_cons_of_next hfin []

theorem exec_read_null {s : State} (hfree : ClientFree s) (e : FrameClass) (tmo : TmoSel) :
    exec (.read e tmo .null) s = .next (raise .invalidArgument s) :=
  clientCall_of_free hfree _

theorem exec_read_valid {s : State} (hfree : ClientFree s) (e : FrameClass) (tmo : TmoSel) :
    exec (.read e tmo .valid) s = .next { discharge s with exp := e, tmo := tmo, stage := .rSeek } :=
  clientCall_of_free hfree _

/-- An idle block that rejects an argument ends where it was. -/
theorem raise_of_idle {s : State} (h : s.stage = .idle) (r : Result) : raise r s = { s with result := r } := by
  rw [raise, ← h]

/-- Settles O20. -/
theorem readAcceptanceStep : Obligations.ReadAcceptanceStep := by
  intro s e tmo hfree howed
  refine ⟨?null, ?valid⟩
  case null => rw [exec_read_null hfree, raise_of_idle hfree.1]
  case valid => rw [exec_read_valid hfree, discharge_of_owedOne howed]

/-- R183, R184: after `BuildData` the frame it laid out is the one retained. -/
theorem retains_storeFrame {s : State} {p : List Byte} (hp : p.length ≤ s.cfg.txCap) (cls : FrameClass) :
    Retains (storeFrame cls p s) (builtFrame s.cfg cls p) := by
  refine ⟨builtFrame_length .., ?_, fun i hi => ?_⟩
  · change 6 + p.length ≤ s.cfg.txCap + 6
    omega
  · rw [storeFrame_txbuf_get, if_pos (by rwa [builtFrame_length] at hi), List.getElem?_eq_getElem hi]

/-- R184 as a procedure. -/
theorem sendTxbuf_of_retains {s : State} {f : List Byte} (hret : Retains s f) :
    sendTxbuf s = .ok { s with tx := s.tx ++ f, b2b := false } := by
  obtain ⟨u, hu, heq⟩ := andThen_next.1 (exec_sendTxbuf hret)
  cases heq
  exact hu

/-- R180: a payload that fits is built and sent after the discharge. -/
theorem exec_write_of_fits {s : State} (hfree : ClientFree s) (howed : OwedOne s) {p : List Byte}
    (hp : p.length ≤ s.cfg.txCap) (cls : FrameClass) (tmo : TmoSel) :
    exec (.write cls p tmo) s = .next { storeFrame cls p s with
      tx := s.tx ++ owedBytes s ++ builtFrame s.cfg cls p
      ackOwed := false, abortOwed := false, b2b := false, tmo := tmo, stage := .wSeek } := by
  have hbuild : buildData cls p (discharge s) = .ok (storeFrame cls p (discharge s)) :=
    buildData_ok.2 ⟨by rwa [discharge_cfg], rfl⟩
  have hretain := retains_storeFrame (s := discharge s) (by rwa [discharge_cfg]) cls
  obtain ⟨hack, habort⟩ := discharge_owed howed
  change execWrite cls p tmo s = _
  rw [execWrite, clientCall_of_free hfree, if_neg (Nat.not_lt.2 hp), hbuild, andThen, sendTxbuf_of_retains hretain,
    andThen, storeFrame_discharge, discharge_cfg, hack, habort]

/-- Settles O22: `BuildData`'s layout of the frame is O38's. -/
theorem writeAcceptanceStep : Obligations.WriteAcceptanceStep := by
  intro s cls p tmo _ hfree howed
  refine ⟨fun hlong => ?long, fun hp => ⟨_, exec_write_of_fits hfree howed hp cls tmo, rfl, ?layout, ?frame⟩⟩
  case long =>
    rw [← raise_of_idle hfree.1]
    exact (clientCall_of_free hfree _).trans (if_pos hlong)
  case layout => exact storeFrame_txbuf_get cls p s
  case frame => rw [storeFrame_closed]; rfl

/-- Settles O37: `Respond` is the response emitter or nothing. -/
theorem syncAndResponseEmitters : Obligations.SyncAndResponseEmitters := by
  intro s
  refine ⟨fun _ => rfl, rfl, fun hidle => ?idle, fun hbusy => ?busy⟩
  case idle =>
    have hrespond : exec .respond s = exec .respEmit s := congrArg _ (respond_of_idle hidle)
    exact ⟨hrespond, _, rfl⟩
  case busy => exact congrArg _ (respond_of_not_idle hbusy)

end Sys2Proof.Machine
end

section
/-! The reading stage steps on their byte (spec/42_frame_decoder.md R152 to R159, spec/44_session.md R215 to R217): one
equation per step and arm; O26, O28 to O31, O33 and O34. -/

namespace Sys2Proof.Machine

/-- R152. -/
theorem exec_rSeek_of_nextByte {s : State} {b : Byte} (hnext : NextByte s b) (hst : InStage s .rSeek) :
    exec .rSeek s = if b = s.cfg.sof
      then .next { s with rd := (s.rd + 1) % s.cfg.cap, hdr0 := s.cfg.sof, stage := .rType }
      else .next { s with rd := (s.rd + 1) % s.cfg.cap } := by
  refine (stageByte_of_nextByte hnext hst _).trans ?_
  split
  next hb => rw [hb]
  next => rfl

/-- Settles O26. -/
theorem readSeekKeepsOnlyTheStartMarker : Obligations.ReadSeekKeepsOnlyTheStartMarker := by
  intro s b hnext hst
  rw [exec_rSeek_of_nextByte hnext hst]
  exact ⟨fun hb => if_pos hb, fun hb => if_neg hb⟩

/-- R155: the expected class. -/
theorem exec_rType_of_class {s : State} {b : Byte} (hnext : NextByte s b) (hst : InStage s .rType)
    (hping : b ≠ s.cfg.tPing) (hexp : b = classCode s.cfg s.exp) : exec .rType s = .next { s with
      rd := (s.rd + 1) % s.cfg.cap, hdr1 := b, b2b := false, stage := .rLen, cnt := 0 } :=
  (stageByte_of_nextByte hnext hst _).trans ((if_neg hping).trans (if_pos hexp))

/-- R155: any other byte. -/
theorem exec_rType_of_foreign {s : State} {b : Byte} (hnext : NextByte s b) (hst : InStage s .rType)
    (hping : b ≠ s.cfg.tPing) (hexp : b ≠ classCode s.cfg s.exp) : exec .rType s = .next { s with
      rd := (s.rd + 1) % s.cfg.cap, b2b := false, result := .protocolMismatch, stage := .idle } :=
  (stageByte_of_nextByte hnext hst _).trans ((if_neg hping).trans (if_neg hexp))

/-- Settles O28. -/
theorem readTypeAcceptsOnlyTheExpectedClass : Obligations.ReadTypeAcceptsOnlyTheExpectedClass := by
  intro s b hnext hst hping
  exact ⟨exec_rType_of_class hnext hst hping, exec_rType_of_foreign hnext hst hping⟩

/-- R94: the low byte replaced, as a number. -/
theorem setLoByte_toNat (v : U16) (b : Byte) : (setLoByte v b).toNat = v.toNat / 256 * 256 + b.toNat := by
  rw [setLoByte, joinBytes_toNat, hiByte_toNat]

/-- R94: the high byte replaced, as a number. -/
theorem setHiByte_toNat (v : U16) (b : Byte) : (setHiByte v b).toNat = b.toNat * 256 + v.toNat % 256 := by
  rw [setHiByte, joinBytes_toNat, loByte_toNat]

/-- R64: a `u16` is its two bytes. -/
theorem loByte_add_hiByte (v : U16) : (loByte v).toNat + 256 * (hiByte v).toNat = v.toNat := by
  rw [loByte_toNat, hiByte_toNat]
  omega

/-- R156: the length the checksum covers is the one `CRC_LEN_SRC` names. -/
theorem checksumLen_toNat (c : Config) (v : U16) : (checksumLen c v).toNat =
    match c.crcLenSrc with | .clamped => (clampLen c v).toNat | .wire => v.toNat := by
  unfold checksumLen
  cases c.crcLenSrc <;> rfl

/-- R156: the low byte of the length. -/
theorem exec_rLen_low {s : State} {b : Byte} (hnext : NextByte s b) (hst : InStage s .rLen) (hcnt : s.cnt = 0) :
    exec .rLen s = .next { s with
      rd := (s.rd + 1) % s.cfg.cap, lenWire := setLoByte s.lenWire b, cnt := 1 } :=
  (stageByte_of_nextByte hnext hst _).trans (if_pos hcnt)

/-- R156: the high byte completes the length. -/
theorem exec_rLen_high {s : State} {b : Byte} (hnext : NextByte s b) (hst : InStage s .rLen) (hcnt : s.cnt ≠ 0) :
    exec .rLen s = .next (lengthComplete { s with
      rd := (s.rd + 1) % s.cfg.cap, lenWire := setHiByte s.lenWire b }) :=
  (stageByte_of_nextByte hnext hst _).trans (if_neg hcnt)

/-- Settles O29. -/
theorem readLengthAssemblesAndClamps : Obligations.ReadLengthAssemblesAndClamps := by
  intro s b hnext hst
  refine ⟨fun hcnt => ⟨_, exec_rLen_low hnext hst hcnt, setLoByte_toNat s.lenWire b, rfl⟩,
    fun hcnt => ⟨_, exec_rLen_high hnext hst hcnt, setHiByte_toNat s.lenWire b, ?clamped, ?covered, rfl⟩⟩
  case clamped => exact clampLen_toNat hnext.1 _
  case covered => exact (loByte_add_hiByte _).trans (checksumLen_toNat s.cfg _)

/-- R157: the low byte of the checksum. -/
theorem exec_rCsum_low {s : State} {b : Byte} (hnext : NextByte s b) (hst : InStage s .rCsum) (hcnt : s.cnt = 0) :
    exec .rCsum s = .next { s with
      rd := (s.rd + 1) % s.cfg.cap, csumRx := setLoByte s.csumRx b, cnt := 1 } :=
  (stageByte_of_nextByte hnext hst _).trans (if_pos hcnt)

/-- R157, R158: the high byte completes the checksum, zeroes `RXBUF` and leads to the payload, or past it. -/
theorem exec_rCsum_high {s : State} {b : Byte} (hnext : NextByte s b) (hst : InStage s .rCsum) (hcnt : s.cnt ≠ 0) :
    exec .rCsum s = .next { s with
      rd := (s.rd + 1) % s.cfg.cap, csumRx := setHiByte s.csumRx b
      rxbuf := s.rxbuf.putAll 0 (List.replicate s.cfg.rxCap 0)
      stage := if s.lenEff = 0 then .rVerify else .rPay
      cnt := if s.lenEff = 0 then s.cnt else 0 } := by
  refine (stageByte_of_nextByte hnext hst _).trans ((if_neg hcnt).trans (congrArg Host.Outcome.next ?_))
  unfold checksumComplete
  by_cases hlen : s.lenEff = 0
  · simp only [if_pos hlen]
  · simp only [if_neg hlen]

/-- R158: what the zeroing leaves at each address. -/
theorem get_zeroed (m : Memory) (n a : Nat) :
    (m.putAll 0 (List.replicate n 0)).get a = if a < n then some 0 else m.get a := by
  rw [Memory.get_putAll]
  by_cases ha : a < n <;> simp [ha]

/-- Settles O30. -/
theorem readChecksumAssemblesAndZeroesTheBuffer : Obligations.ReadChecksumAssemblesAndZeroesTheBuffer := by
  intro s b hnext hst
  exact ⟨fun hcnt => ⟨_, exec_rCsum_low hnext hst hcnt, setLoByte_toNat s.csumRx b, rfl⟩,
    fun hcnt => ⟨_, exec_rCsum_high hnext hst hcnt, setHiByte_toNat s.csumRx b, get_zeroed s.rxbuf s.cfg.rxCap, rfl⟩⟩

/-- R159: the last payload byte. -/
theorem exec_rPay_last {s : State} {b : Byte} (hnext : NextByte s b) (hst : InStage s .rPay)
    (hcnt : s.cnt.toNat < s.cfg.rxCap) (hlast : s.cnt.toNat + 1 = s.lenEff.toNat) : exec .rPay s = .next { s with
      rd := (s.rd + 1) % s.cfg.cap, rxbuf := s.rxbuf.put s.cnt.toNat b, stage := .rVerify } :=
  (stageByte_of_nextByte hnext hst _).trans ((if_pos hcnt).trans (if_pos hlast))

/-- R159: a payload byte with more to come. -/
theorem exec_rPay_more {s : State} {b : Byte} (hnext : NextByte s b) (hst : InStage s .rPay)
    (hcnt : s.cnt.toNat < s.cfg.rxCap) (hmore : s.cnt.toNat + 1 ≠ s.lenEff.toNat) : exec .rPay s = .next { s with
      rd := (s.rd + 1) % s.cfg.cap, rxbuf := s.rxbuf.put s.cnt.toNat b, cnt := s.cnt + 1 } :=
  (stageByte_of_nextByte hnext hst _).trans ((if_pos hcnt).trans (if_neg hmore))

/-- Below `RX_CAP` the 16-bit counter does not wrap (R7 clause 2). -/
theorem cnt_succ_toNat {s : State} (hwf : s.cfg.wf = true) (hcnt : s.cnt.toNat < s.cfg.rxCap) :
    (s.cnt + 1).toNat = s.cnt.toNat + 1 := by
  have hcap := Config.wf_rxCap hwf
  have hone : (1 : U16).toNat = 1 := rfl
  rw [BitVec.toNat_add, hone]
  omega

/-- Settles O31. -/
theorem readPayloadStoresOneByte : Obligations.ReadPayloadStoresOneByte := by
  intro s b hnext hst hcnt
  have hother : ∀ a, a ≠ s.cnt.toNat → (s.rxbuf.put s.cnt.toNat b).get a = s.rxbuf.get a :=
    fun a ha => Memory.get_put_other s.rxbuf s.cnt.toNat a b ha
  by_cases hlast : s.cnt.toNat + 1 = s.lenEff.toNat
  case pos =>
    exact ⟨_, exec_rPay_last hnext hst hcnt hlast, Memory.get_put_same .., hother, fun _ => rfl,
      fun hmore => absurd hlast hmore⟩
  case neg =>
    exact ⟨_, exec_rPay_more hnext hst hcnt hlast, Memory.get_put_same .., hother, fun h => absurd h hlast,
      fun _ => ⟨cnt_succ_toNat hnext.1 hcnt, rfl⟩⟩

/-- R215. -/
theorem exec_wSeek_of_nextByte {s : State} {b : Byte} (hnext : NextByte s b) (hst : InStage s .wSeek) :
    exec .wSeek s = if b = s.cfg.sof
      then .next { s with rd := (s.rd + 1) % s.cfg.cap, stage := .wType }
      else .next { s with rd := (s.rd + 1) % s.cfg.cap } :=
  stageByte_of_nextByte hnext hst _

/-- Settles O33. -/
theorem writeSeekKeepsOnlyTheStartMarker : Obligations.WriteSeekKeepsOnlyTheStartMarker := by
  intro s b hnext hst
  rw [exec_wSeek_of_nextByte hnext hst]
  exact ⟨fun hb => if_pos hb, fun hb => if_neg hb⟩

/-- R7 clause 3 for the three replies. -/
theorem replies_distinct {c : Config} (hwf : c.wf = true) :
    c.tNak ≠ c.tAck ∧ c.tAckAbort ≠ c.tAck ∧ c.tNak ≠ c.tAckAbort := by
  obtain ⟨-, -, -, hnodup, -⟩ := c.wf_iff.1 hwf
  simp only [Config.types, List.nodup_cons, List.mem_cons, not_or] at hnodup
  obtain ⟨⟨hackNak, hackAbort, -⟩, ⟨hnakAbort, -⟩, -⟩ := hnodup
  exact ⟨Ne.symm hackNak, Ne.symm hackAbort, hnakAbort⟩

/-- R216: an ACK. -/
theorem exec_wType_of_ack {s : State} (hnext : NextByte s s.cfg.tAck) (hst : InStage s .wType) :
    exec .wType s = .next { s with
      rd := (s.rd + 1) % s.cfg.cap, b2b := false, result := .ok, stage := .idle } :=
  (stageByte_of_nextByte hnext hst _).trans (if_pos rfl)

/-- R216: an ACK-ABORT. -/
theorem exec_wType_of_ackAbort {s : State} (hnext : NextByte s s.cfg.tAckAbort) (hst : InStage s .wType) :
    exec .wType s = .next { s with
      rd := (s.rd + 1) % s.cfg.cap, b2b := false, result := .abort, stage := .idle } :=
  (stageByte_of_nextByte hnext hst _).trans
    ((if_neg (replies_distinct hnext.1).2.1).trans (if_pos rfl))

/-- R217: a NAK sends the retained frame again. -/
theorem exec_wType_of_nak {s : State} {f : List Byte} (hnext : NextByte s s.cfg.tNak) (hst : InStage s .wType)
    (hret : Retains s f) : exec .wType s = .next { s with
      rd := (s.rd + 1) % s.cfg.cap, b2b := false, tx := s.tx ++ f, stage := .wSeek } := by
  obtain ⟨hack, -, habort⟩ := replies_distinct hnext.1
  have hretain : Retains { s with rd := (s.rd + 1) % s.cfg.cap, b2b := false } f := hret
  refine (stageByte_of_nextByte hnext hst _).trans ?_
  simp only [if_neg hack, if_neg habort, if_true, sendTxbuf_of_retains hretain, andThen]

/-- R216: any byte that is no reply. -/
theorem exec_wType_of_foreign {s : State} {b : Byte} (hnext : NextByte s b) (hst : InStage s .wType)
    (hother : b ∉ [s.cfg.tAck, s.cfg.tNak, s.cfg.tAckAbort]) : exec .wType s = .next { s with
      rd := (s.rd + 1) % s.cfg.cap, b2b := false, result := .protocolMismatch, stage := .idle } := by
  simp only [List.mem_cons, List.not_mem_nil, or_false, not_or] at hother
  obtain ⟨hack, hnak, habort⟩ := hother
  exact (stageByte_of_nextByte hnext hst _).trans ((if_neg hack).trans ((if_neg habort).trans (if_neg hnak)))

/-- Settles O34. -/
theorem writeTypeEndsTheCallOrRetransmits : Obligations.WriteTypeEndsTheCallOrRetransmits := by
  intro s b hnext hst
  refine ⟨fun hb => ?ack, fun hb => ?ackAbort, fun hb f hlen hcap hbuf => ?nak, exec_wType_of_foreign hnext hst⟩
  case ack => subst hb; exact exec_wType_of_ack hnext hst
  case ackAbort => subst hb; exact exec_wType_of_ackAbort hnext hst
  case nak => subst hb; exact exec_wType_of_nak hnext hst ⟨hlen, hcap, hbuf⟩

end Sys2Proof.Machine
end

section
/-! The CRC as a linear map (spec/41_crc16.md R133, R140): shifts commute with XOR, a byte below the top shifts out
without feedback; O17 and O18. -/

namespace Sys2Proof.Machine

/-- R133: a shift whose top bit is clear feeds nothing back. -/
theorem crcShift_of_clear {poly x : U16} (h : x.getLsbD 15 = false) : crcShift poly x = x <<< 1 :=
  if_neg (Bool.eq_false_iff.mp h)

theorem crcShift_of_set {poly x : U16} (h : x.getLsbD 15 = true) : crcShift poly x = (x <<< 1) ^^^ poly :=
  if_pos h

theorem crcShift_xor (poly x y : U16) : crcShift poly (x ^^^ y) = crcShift poly x ^^^ crcShift poly y := by
  unfold crcShift
  rw [BitVec.getLsbD_xor, BitVec.shiftLeft_xor_distrib]
  cases x.getLsbD 15 <;> cases y.getLsbD 15
  case false.false => rfl
  case false.true => exact BitVec.xor_assoc ..
  case true.false => simp only [Bool.xor_false, if_true, Bool.false_eq_true, if_false]; ac_rfl
  case true.true =>
    have hcancel : x <<< 1 ^^^ poly ^^^ (y <<< 1 ^^^ poly) = x <<< 1 ^^^ y <<< 1 ^^^ (poly ^^^ poly) := by ac_rfl
    simp [hcancel]

theorem crcShifts_xor (poly : U16) (n : Nat) (x y : U16) :
    crcShifts poly n (x ^^^ y) = crcShifts poly n x ^^^ crcShifts poly n y := by
  induction n generalizing x y with
  | zero => rfl
  | succ n ih => rw [crcShifts, crcShift_xor, ih]; rfl

theorem crcShifts_zero (poly : U16) (n : Nat) : crcShifts poly n 0 = 0 := by
  induction n with
  | zero => rfl
  | succ n ih => exact ih

/-- `n` shifts of a word whose top `n` bits are clear feed nothing back. -/
theorem crcShifts_of_clear (poly : U16) {n : Nat} {x : U16} (h : ∀ j, 16 ≤ j + n → x.getLsbD j = false) :
    crcShifts poly n x = x <<< n := by
  induction n generalizing x with
  | zero => exact (BitVec.shiftLeft_zero x).symm
  | succ n ih =>
    rw [crcShifts, crcShift_of_clear (h 15 (by omega)), ih, Nat.add_comm, BitVec.shiftLeft_add]
    intro j hj
    rw [BitVec.getLsbD_shiftLeft, h (j - 1) (by omega), Bool.and_false]

/-- R133 is linear in the accumulator and the byte together. -/
theorem crcByte_xor (poly : U16) (x y : U16) (a b : Byte) :
    crcByte poly false (x ^^^ y) (a ^^^ b) = crcByte poly false x a ^^^ crcByte poly false y b := by
  have hword : x ^^^ y ^^^ (a ^^^ b).setWidth 16 <<< 8 =
      (x ^^^ a.setWidth 16 <<< 8) ^^^ (y ^^^ b.setWidth 16 <<< 8) := by
    rw [BitVec.setWidth_xor, BitVec.shiftLeft_xor_distrib]
    ac_rfl
  simp only [crcByte, Bool.false_eq_true, if_false, hword, crcShifts_xor]

theorem crcByte_zero (poly : U16) : crcByte poly false 0 0 = 0 := crcShifts_zero poly 8

/-- The high byte cancels a byte fed in that equals it; the low byte shifts up without feedback. -/
theorem crcByte_hiByte (poly acc : U16) : crcByte poly false acc (hiByte acc) = acc <<< 8 := by
  have hlow : acc ^^^ (hiByte acc).setWidth 16 <<< 8 = (loByte acc).setWidth 16 := by
    apply BitVec.eq_of_getLsbD_eq
    intro i hi
    by_cases h8 : i < 8
    · simp [loByte, hiByte, h8, hi]
    · simp [loByte, hiByte, h8, hi, show 8 + (i - 8) = i by omega, show i - 8 < 8 by omega]
  have hclear : ∀ j, 16 ≤ j + 8 → ((loByte acc).setWidth 16).getLsbD j = false := fun j hj => by
    simp [loByte, show ¬ j < 8 by omega]
  have hshift : (loByte acc).setWidth 16 <<< 8 = acc <<< 8 := by
    apply BitVec.eq_of_getLsbD_eq
    intro i hi
    by_cases h8 : i < 8
    · simp [h8]
    · simp [loByte, h8, hi, show i - 8 < 8 by omega, show i - 8 < 16 by omega]
  simp only [crcByte, Bool.false_eq_true, if_false, hlow, crcShifts_of_clear poly hclear, hshift]

/-- R133, the table form: the accumulator shifted by a byte, XOR the table entry of its high byte XOR the byte. -/
theorem crcByte_table (poly acc : U16) (b : Byte) :
    crcByte poly false acc b = acc <<< 8 ^^^ crcByte poly false 0 (hiByte acc ^^^ b) := by
  calc crcByte poly false acc b
      = crcByte poly false (acc ^^^ 0) (hiByte acc ^^^ (hiByte acc ^^^ b)) := by
        rw [← BitVec.xor_assoc, BitVec.xor_self, BitVec.zero_xor, show (0 : U16) = 0#16 from rfl, BitVec.xor_zero]
    _ = acc <<< 8 ^^^ crcByte poly false 0 (hiByte acc ^^^ b) := by rw [crcByte_xor, crcByte_hiByte]

/-- R133: with input reflection the byte enters bit-reversed. -/
theorem crcByte_reflected (poly acc : U16) {b d : Byte} (h : ∀ i, i < 8 → d.getLsbD i = b.getLsbD (7 - i)) :
    crcByte poly true acc b = crcByte poly false acc d := by
  have hd : b.reverse = d := by
    apply BitVec.eq_of_getLsbD_eq
    intro i hi
    rw [BitVec.getLsbD_reverse, BitVec.getMsbD_eq_getLsbD, decide_eq_true hi, Bool.true_and, h i hi]
  simp only [crcByte, if_true, hd, Bool.false_eq_true, if_false]

/-- Settles O17: `hiByte` is the byte shifted down; the ten entries are run. -/
theorem crcByteHasTheTableForm : Obligations.CrcByteHasTheTableForm := by
  refine ⟨fun acc b => ?table, fun j k => ?linear, ?entries, fun poly acc b d h => crcByte_reflected poly acc h⟩
  case table =>
    have hhigh : (acc >>> 8).setWidth 8 = hiByte acc := by
      apply BitVec.eq_of_toNat_eq
      rw [hiByte_toNat, BitVec.toNat_setWidth, BitVec.toNat_ushiftRight, Nat.shiftRight_eq_div_pow]
      exact Nat.mod_eq_of_lt (by have := acc.isLt; omega)
    rw [hhigh]
    exact crcByte_table 0x1021 acc b
  case linear => exact crcByte_xor 0x1021 0 0 j k
  case entries => decide

/-- R140 law 3, from any two accumulators. -/
theorem foldl_crcByte_xor (poly : U16) {a b : List Byte} (h : a.length = b.length) (x y : U16) :
    (List.zipWith (· ^^^ ·) a b).foldl (crcByte poly false) (x ^^^ y) =
      a.foldl (crcByte poly false) x ^^^ b.foldl (crcByte poly false) y := by
  induction a generalizing b x y with
  | nil => rw [List.length_eq_zero_iff.1 h.symm]; rfl
  | cons u a ih =>
    obtain ⟨v, b, rfl⟩ := List.exists_cons_of_length_eq_add_one h.symm
    rw [List.zipWith_cons_cons, List.foldl_cons, List.foldl_cons, List.foldl_cons, crcByte_xor]
    exact ih (by simpa using h) _ _

theorem crc16_zipWith_xor {a b : List Byte} (h : a.length = b.length) :
    crc16 (List.zipWith (· ^^^ ·) a b) = crc16 a ^^^ crc16 b :=
  foldl_crcByte_xor xmodemPoly h 0 0

/-- Settles O18: the residue is zero since each checksum byte cancels the accumulator's high byte. -/
theorem crcSixteenIsLinearWithZeroResidue : Obligations.CrcSixteenIsLinearWithZeroResidue := by
  refine ⟨rfl, fun m => ?leading, fun a b h => crc16_zipWith_xor h, fun m => ?residue⟩
  case leading => rw [crc16, List.foldl_cons, crcByte_zero]; rfl
  case residue =>
    have hlow : hiByte (crc16 m <<< 8) = loByte (crc16 m) := by
      apply BitVec.eq_of_toNat_eq
      rw [hiByte_toNat, loByte_toNat, BitVec.toNat_shiftLeft, Nat.shiftLeft_eq]
      omega
    have hgone : crc16 m <<< 8 <<< 8 = (0 : U16) := by
      rw [← BitVec.shiftLeft_add]
      exact BitVec.shiftLeft_eq_zero (by decide)
    calc crc16 (m ++ [hiByte (crc16 m), loByte (crc16 m)])
        = crcByte xmodemPoly false (crcByte xmodemPoly false (crc16 m) (hiByte (crc16 m))) (loByte (crc16 m)) := by
          rw [crc16, List.foldl_append]; rfl
      _ = 0 := by rw [crcByte_hiByte, ← hlow, crcByte_hiByte, hgone]

end Sys2Proof.Machine
end

section
/-! The CRC bit by bit (spec/41_crc16.md R140 law 5): a message enters as its bits, zero bits are undone one by one
since the polynomial is odd, and sixteen bits cannot cancel; O19. -/

namespace Sys2Proof.Machine

/-- One message bit through the accumulator (R65, R133). -/
def crcBit (acc : U16) (b : Bool) : U16 := crcShift xmodemPoly (acc ^^^ if b then 0x8000 else 0)

/-- The bits of a byte in the order they enter, the most significant first (R65). -/
def byteBits (b : Byte) : List Bool := (List.range 8).map fun j => b.getLsbD (7 - j)

/-- The bits of a message in the order they enter. -/
def messageBits (m : List Byte) : List Bool := (List.range (8 * m.length)).map (messageBit m)

/-- A shift of a sum peels off the top bit of one summand. -/
theorem crcShift_xor_top (poly x y : U16) :
    crcShift poly (x ^^^ y) = crcShift poly (x ^^^ if y.getLsbD 15 then 0x8000 else 0) ^^^ (y <<< 1) := by
  rw [crcShift_xor, crcShift_xor poly x, BitVec.xor_assoc]
  congr 1
  cases hy : y.getLsbD 15 with
  | false => rw [crcShift_of_clear hy]; simp [crcShift]
  | true =>
    have htop : crcShift poly 0x8000 = poly := by simp [crcShift]
    rw [crcShift_of_set hy, if_pos rfl, htop, BitVec.xor_comm]

theorem crcShifts_succ (poly : U16) (n : Nat) (x : U16) :
    crcShifts poly (n + 1) x = crcShift poly (crcShifts poly n x) := by
  induction n generalizing x with
  | zero => rfl
  | succ n ih => exact ih (crcShift poly x)

/-- After `n` of the eight shifts of R133, the first `n` bits have entered and the rest stand above the low byte. -/
theorem crcShifts_byte (acc : U16) (b : Byte) {n : Nat} (hn : n ≤ 8) :
    crcShifts xmodemPoly n (acc ^^^ b.setWidth 16 <<< 8) =
      ((List.range n).map fun j => b.getLsbD (7 - j)).foldl crcBit acc ^^^ b.setWidth 16 <<< (8 + n) := by
  induction n with
  | zero => rfl
  | succ n ih =>
    have htop : (b.setWidth 16 <<< (8 + n)).getLsbD 15 = b.getLsbD (7 - n) := by
      rw [BitVec.getLsbD_shiftLeft, BitVec.getLsbD_setWidth]
      simp only [show ¬ 15 < 8 + n by omega, show 15 - (8 + n) = 7 - n by omega, show 7 - n < 16 by omega]
      simp
    rw [crcShifts_succ, ih (by omega), crcShift_xor_top, htop, List.range_succ, List.map_append, List.foldl_append,
      ← BitVec.shiftLeft_add]
    rfl

theorem crcByte_eq_foldl_crcBit (acc : U16) (b : Byte) :
    crcByte xmodemPoly false acc b = (byteBits b).foldl crcBit acc := by
  have hgone : b.setWidth 16 <<< 16 = (0 : U16) := BitVec.shiftLeft_eq_zero (Nat.le_refl 16)
  have hrun := crcShifts_byte acc b (Nat.le_refl 8)
  rw [hgone] at hrun
  exact hrun.trans (BitVec.xor_zero ..)

theorem messageBits_cons (b : Byte) (m : List Byte) : messageBits (b :: m) = byteBits b ++ messageBits m := by
  have hsize : 8 * (b :: m).length = 8 + 8 * m.length := by rw [List.length_cons]; omega
  have hfirst : (List.range 8).map (messageBit (b :: m)) = byteBits b :=
    List.map_congr_left fun j hj => by
      have hlt : j < 8 := List.mem_range.1 hj
      simp [messageBit, Nat.div_eq_of_lt hlt, Nat.mod_eq_of_lt hlt]
  have hrest : (List.range (8 * m.length)).map (messageBit (b :: m) ∘ (8 + ·)) = messageBits m :=
    List.map_congr_left fun j _ => by
      simp only [Function.comp, messageBit, show (8 + j) / 8 = j / 8 + 1 by omega, show (8 + j) % 8 = j % 8 by omega,
        List.getD_cons_succ]
  rw [messageBits, hsize, List.range_add, List.map_append, List.map_map, hfirst, hrest]

/-- R138 bit by bit. -/
theorem crc16_eq_foldl_crcBit (m : List Byte) : crc16 m = (messageBits m).foldl crcBit 0 := by
  have general : ∀ (m : List Byte) (acc : U16),
      m.foldl (crcByte xmodemPoly false) acc = (messageBits m).foldl crcBit acc := by
    intro m
    induction m with
    | nil => intro acc; rfl
    | cons b m ih =>
      intro acc
      rw [List.foldl_cons, ih, messageBits_cons, List.foldl_append, crcByte_eq_foldl_crcBit]
  exact general m 0

/-- The polynomial is odd: the bit shifted out comes back at the bottom. -/
theorem crcShift_low (x : U16) : (crcShift xmodemPoly x).getLsbD 0 = x.getLsbD 15 := by
  cases hx : x.getLsbD 15 with
  | false => rw [crcShift_of_clear hx]; simp
  | true => rw [crcShift_of_set hx]; simp [xmodemPoly]

/-- A shift that leaves the bottom bit clear moved every bit up by one. -/
theorem crcShift_of_low_clear {x : U16} (h : (crcShift xmodemPoly x).getLsbD 0 = false) :
    x.getLsbD 15 = false ∧ ∀ j < 15, x.getLsbD j = (crcShift xmodemPoly x).getLsbD (j + 1) := by
  have htop : x.getLsbD 15 = false := (crcShift_low x).symm.trans h
  refine ⟨htop, fun j hj => ?_⟩
  rw [crcShift_of_clear htop, BitVec.getLsbD_shiftLeft]
  simp only [Nat.add_sub_cancel, show j + 1 < 16 by omega, show ¬ j + 1 < 1 by omega]
  simp

/-- Below the top bit an entering bit changes nothing. -/
theorem getLsbD_xor_bit (acc : U16) (b : Bool) {j : Nat} (hj : j < 15) :
    (acc ^^^ if b then 0x8000 else 0).getLsbD j = acc.getLsbD j := by
  have hlow : ∀ j < 15, (0x8000 : U16).getLsbD j = false := by decide
  rw [BitVec.getLsbD_xor]
  cases b
  · simp
  · rw [if_pos rfl, hlow j hj, Bool.xor_false]

theorem crcBit_zero : crcBit 0 false = 0 := by decide

/-- Zero bits leave a zero accumulator zero. -/
theorem foldl_crcBit_zero {w : List Bool} (hw : ∀ b ∈ w, b = false) : w.foldl crcBit 0 = 0 := by
  induction w with
  | nil => rfl
  | cons b w ih =>
    rw [List.foldl_cons, hw b (List.mem_cons_self ..), crcBit_zero]
    exact ih fun c hc => hw c (List.mem_cons_of_mem b hc)

/-- A shift kills no word but zero. -/
theorem crcShift_eq_zero {x : U16} (h : crcShift xmodemPoly x = 0) : x = 0 := by
  obtain ⟨htop, hrest⟩ := crcShift_of_low_clear (x := x) (by rw [h]; rfl)
  apply BitVec.eq_of_getLsbD_eq
  intro i hi
  rcases Nat.lt_succ_iff_lt_or_eq.1 hi with hlt | rfl
  · rw [hrest i hlt, h]; simp
  · rw [htop]; simp

/-- Zero bits take no accumulator but zero to zero. -/
theorem eq_zero_of_foldl_crcBit_zeros {w : List Bool} (hw : ∀ b ∈ w, b = false) {acc : U16}
    (h : w.foldl crcBit acc = 0) : acc = 0 := by
  induction w generalizing acc with
  | nil => exact h
  | cons b w ih =>
    have hb : b = false := hw b (List.mem_cons_self ..)
    have hnext := ih (fun c hc => hw c (List.mem_cons_of_mem b hc)) h
    rw [hb, crcBit] at hnext
    simpa using crcShift_eq_zero hnext

/-- An accumulator that `n` bits take to zero has its low `16 - n` bits clear: each bit that enters reaches the bottom
only after it has been shifted out of the top. -/
theorem low_clear_of_foldl_crcBit {w : List Bool} (hw : w.length ≤ 16) {acc : U16} (h : w.foldl crcBit acc = 0) :
    ∀ j, j + w.length < 16 → acc.getLsbD j = false := by
  induction w generalizing acc with
  | nil =>
    intro j _
    rw [show acc = 0 from h]; simp
  | cons b w ih =>
    intro j hj
    rw [List.length_cons] at hw hj
    have hlow := ih (by omega) h
    obtain ⟨-, hrest⟩ := crcShift_of_low_clear (hlow 0 (by omega))
    rw [← getLsbD_xor_bit acc b (by omega), hrest j (by omega)]
    exact hlow (j + 1) (by omega)

/-- At most sixteen bits that take a zero accumulator to zero are all zero. -/
theorem all_zero_of_foldl_crcBit {w : List Bool} (hw : w.length ≤ 16) (h : w.foldl crcBit 0 = 0) :
    ∀ b ∈ w, b = false := by
  induction w with
  | nil => simp
  | cons b w ih =>
    rw [List.length_cons] at hw
    have hlow : (crcBit 0 b).getLsbD 0 = false :=
      low_clear_of_foldl_crcBit (w := w) (by omega) h 0 (by omega)
    have hb : b = false := by
      cases b with
      | false => rfl
      | true => exact absurd hlow (by decide)
    rw [List.foldl_cons, hb, crcBit_zero] at h
    intro c hc
    rcases List.mem_cons.1 hc with rfl | hc
    · exact hb
    · exact ih (by omega) h c hc

/-- A window of at most sixteen bits, with zeros before and behind it, that ends at zero is zero. -/
theorem all_zero_of_window {u v w : List Bool} (hu : ∀ b ∈ u, b = false) (hw : ∀ b ∈ w, b = false)
    (hv : v.length ≤ 16) (h : (u ++ v ++ w).foldl crcBit 0 = 0) : ∀ b ∈ v, b = false := by
  rw [List.foldl_append, List.foldl_append, foldl_crcBit_zero hu] at h
  exact all_zero_of_foldl_crcBit hv (eq_zero_of_foldl_crcBit_zeros hw h)

theorem messageBits_length (m : List Byte) : (messageBits m).length = 8 * m.length := by
  simp [messageBits]

/-- A message whose bits all lie within sixteen consecutive positions and whose value is zero has no bit set. -/
theorem messageBit_eq_false_of_burst {d : List Byte} {k : Nat}
    (hburst : ∀ j, messageBit d j = true → k ≤ j ∧ j < k + 16) (h : crc16 d = 0) :
    ∀ j < 8 * d.length, messageBit d j = false := by
  have outside : ∀ j, j < k ∨ k + 16 ≤ j → messageBit d j = false := fun j hj =>
    Bool.eq_false_iff.mpr fun hset => by have := hburst j hset; omega
  have hget : ∀ j (hj : j < (messageBits d).length), (messageBits d)[j] = messageBit d j := fun j hj => by
    simp [messageBits]
  have hsplit : messageBits d =
      (messageBits d).take k ++ ((messageBits d).drop k).take 16 ++ (messageBits d).drop (k + 16) := by
    rw [List.append_assoc, ← List.drop_drop, List.take_append_drop, List.take_append_drop]
  have hbefore : ∀ b ∈ (messageBits d).take k, b = false := fun b hb => by
    obtain ⟨j, hj, rfl⟩ := List.mem_take_iff_getElem.1 hb
    rw [hget]
    exact outside j (.inl (by omega))
  have hbehind : ∀ b ∈ (messageBits d).drop (k + 16), b = false := fun b hb => by
    obtain ⟨j, hj, rfl⟩ := List.mem_drop_iff_getElem.1 hb
    rw [hget]
    exact outside _ (.inr (by omega))
  rw [crc16_eq_foldl_crcBit, hsplit] at h
  have hwindow := all_zero_of_window hbefore hbehind (List.length_take_le ..) h
  intro j hj
  by_cases hin : k ≤ j ∧ j < k + 16
  case neg => exact outside j (by omega)
  case pos =>
    rw [← messageBits_length] at hj
    rw [← hget j hj]
    refine hwindow _ (List.mem_take_iff_getElem.2 ⟨j - k, by rw [List.length_drop]; omega, ?_⟩)
    rw [List.getElem_drop]
    congr 1
    omega

/-- R65: the bits of the difference of two messages are the differences of their bits. -/
theorem messageBit_zipWith_xor {m e : List Byte} (h : m.length = e.length) (j : Nat) :
    messageBit (List.zipWith (· ^^^ ·) m e) j = (messageBit m j ^^ messageBit e j) := by
  unfold messageBit
  by_cases hj : j / 8 < m.length
  · have hj' : j / 8 < e.length := h ▸ hj
    rw [List.getD_eq_getElem _ _ (by simp [hj, hj']), List.getD_eq_getElem _ _ hj, List.getD_eq_getElem _ _ hj',
      List.getElem_zipWith, BitVec.getLsbD_xor]
  · have hj' : ¬ j / 8 < e.length := h ▸ hj
    rw [List.getD_eq_default _ _ (by simp; omega), List.getD_eq_default _ _ (by omega),
      List.getD_eq_default _ _ (by omega)]
    simp

/-- Two messages of one length with the same bits are the same. -/
theorem eq_of_messageBit_eq {m e : List Byte} (h : m.length = e.length)
    (hbits : ∀ j < 8 * m.length, messageBit m j = messageBit e j) : m = e := by
  refine List.ext_getElem h fun i hi hi' => ?_
  apply BitVec.eq_of_getLsbD_eq
  intro q hq
  have hbit := hbits (8 * i + (7 - q)) (by omega)
  simp only [messageBit, show (8 * i + (7 - q)) / 8 = i by omega, show 7 - (8 * i + (7 - q)) % 8 = q by omega] at hbit
  rwa [List.getD_eq_getElem _ _ hi, List.getD_eq_getElem _ _ hi'] at hbit

/-- Settles O19: by linearity the difference would have the value zero. -/
theorem crcSixteenDetectsEveryBurstOfAtMostSixteenBits :
    Obligations.CrcSixteenDetectsEveryBurstOfAtMostSixteenBits := by
  rintro m e hlen hne ⟨k, hburst⟩ hsame
  have hzero : crc16 (List.zipWith (· ^^^ ·) m e) = 0 := by
    rw [crc16_zipWith_xor hlen, hsame, BitVec.xor_self]; rfl
  have hclear := messageBit_eq_false_of_burst (k := k) (fun j hset => hburst j fun heq => by
    rw [messageBit_zipWith_xor hlen, heq, Bool.xor_self] at hset; cases hset) hzero
  refine hne (eq_of_messageBit_eq hlen fun j hj => ?_)
  have hbit := hclear j (by simpa [← hlen] using hj)
  rw [messageBit_zipWith_xor hlen] at hbit
  simpa using hbit

end Sys2Proof.Machine
end

section
/-! What commutes with an `ENQ` (spec/20_memory.md R73): the operations that read neither `RING[]` nor `wr` do the same
whatever stands there; O56. -/

namespace Sys2Proof.Machine

/-- The same state with another array and write cursor. -/
def State.withRing (s : State) (r : Memory) (w : Nat) : State := { s with ring := r, wr := w }

/-- The outcome with its next state changed. -/
def onNext (f : State → State) : Out → Out
  | .next t => .next (f t)
  | .fault e => .fault e
  | .refused e => .refused e

theorem discharge_withRing (s : State) (r : Memory) (w : Nat) :
    discharge (s.withRing r w) = (discharge s).withRing r w := by
  unfold discharge
  by_cases hack : s.ackOwed = true
  · rw [if_pos hack]; exact if_pos hack
  · rw [if_neg hack]
    refine (if_neg hack).trans ?_
    by_cases habort : s.abortOwed = true
    · rw [if_pos habort]; exact if_pos habort
    · rw [if_neg habort]; exact if_neg habort

theorem respond_withRing (s : State) (r : Memory) (w : Nat) : respond (s.withRing r w) = (respond s).withRing r w := by
  unfold respond
  by_cases hidle : linkIdle s = true
  · rw [if_pos hidle]; exact if_pos hidle
  · rw [if_neg hidle]; exact if_neg hidle

theorem storeFrame_withRing (cls : FrameClass) (p : List Byte) (s : State) (r : Memory) (w : Nat) :
    storeFrame cls p (s.withRing r w) = (storeFrame cls p s).withRing r w := by
  rw [storeFrame_closed, storeFrame_closed]
  rfl

theorem buildData_withRing (cls : FrameClass) (p : List Byte) (s : State) (r : Memory) (w : Nat) :
    buildData cls p (s.withRing r w) = (buildData cls p s).map (·.withRing r w) := by
  unfold buildData
  rw [storeFrame_withRing]
  by_cases hfits : p.length ≤ s.cfg.txCap
  · rw [if_pos hfits]; exact if_pos hfits
  · rw [if_neg hfits]; exact if_neg hfits

theorem sendTxbuf_withRing (s : State) (r : Memory) (w : Nat) :
    sendTxbuf (s.withRing r w) = (sendTxbuf s).map (·.withRing r w) := by
  have hread : readBytes .txbuf (s.withRing r w).txbuf ((s.withRing r w).cfg.txCap + 6) 0 (s.withRing r w).txLen =
      readBytes .txbuf s.txbuf (s.cfg.txCap + 6) 0 s.txLen := rfl
  unfold sendTxbuf
  rw [hread]
  cases readBytes .txbuf s.txbuf (s.cfg.txCap + 6) 0 s.txLen <;> rfl

theorem andThen_onNext (a : Except Fault State) {k : State → Out} {f : State → State}
    (hk : ∀ t, k (f t) = onNext f (k t)) : andThen (a.map f) k = onNext f (andThen a k) := by
  cases a
  · rfl
  · exact hk _

theorem clientCall_withRing {s : State} {r : Memory} {w : Nat} {k k' : Out}
    (hk : k' = onNext (·.withRing r w) k) :
    clientCall (s.withRing r w) k' = onNext (·.withRing r w) (clientCall s k) := by
  unfold clientCall
  by_cases hmay : clientMayCall s = true
  · rw [if_pos hmay, ← hk]; exact if_pos hmay
  · rw [if_neg hmay]; exact if_neg hmay

theorem execWrite_withRing (cls : FrameClass) (p : List Byte) (tmo : TmoSel) (s : State) (r : Memory) (w : Nat) :
    execWrite cls p tmo (s.withRing r w) = onNext (·.withRing r w) (execWrite cls p tmo s) := by
  refine clientCall_withRing ?_
  by_cases hlong : s.cfg.txCap < p.length
  · rw [if_pos hlong]; exact if_pos hlong
  · rw [if_neg hlong, discharge_withRing, buildData_withRing]
    refine (if_neg hlong).trans (andThen_onNext _ fun t => ?_)
    rw [sendTxbuf_withRing]
    exact andThen_onNext _ fun _ => rfl

theorem verifyPayload_withRing (p : List Byte) (s : State) (r : Memory) (w : Nat) :
    verifyPayload p (s.withRing r w) = (verifyPayload p s).withRing r w := by
  by_cases hmatch : crc16 ([s.hdr0, s.hdr1, s.hdr2, s.hdr3] ++ p) = s.csumRx
  · rw [verifyPayload_of_match hmatch, verifyPayload_of_match (s := s.withRing r w) hmatch]; rfl
  · rw [verifyPayload_of_mismatch hmatch, verifyPayload_of_mismatch (s := s.withRing r w) hmatch]; rfl

theorem execRVerify_withRing (s : State) (r : Memory) (w : Nat) :
    execRVerify (s.withRing r w) = onNext (·.withRing r w) (execRVerify s) := by
  have hread : readBytes .rxbuf (s.withRing r w).rxbuf (s.withRing r w).cfg.rxCap 0 (s.withRing r w).lenEff.toNat =
      readBytes .rxbuf s.rxbuf s.cfg.rxCap 0 s.lenEff.toNat := rfl
  unfold execRVerify atStage
  rw [hread]
  by_cases hst : s.stage = .rVerify ∧ s.flt = false
  · rw [if_pos hst]
    refine (if_pos hst).trans ?_
    cases readBytes .rxbuf s.rxbuf s.cfg.rxCap 0 s.lenEff.toNat with
    | error f => rfl
    | ok p => exact congrArg Host.Outcome.next (verifyPayload_withRing p s r w)
  · rw [if_neg hst]; exact if_neg hst

/-- R73: an operation that spares the ring does the same whatever stands in `RING[]` and `wr`. -/
theorem exec_withRing {i : Instr} (hi : sparesRing i = true) (s : State) (r : Memory) (w : Nat) :
    exec i (s.withRing r w) = onNext (·.withRing r w) (exec i s) := by
  cases i with
  | crcCfg | crcAcc | crcFin | syncEmit | respEmit => rfl
  | read e tmo d =>
    cases d
    case null => exact clientCall_withRing rfl
    case valid => exact clientCall_withRing (by rw [discharge_withRing]; rfl)
  | write cls p tmo => exact execWrite_withRing cls p tmo s r w
  | finalize => exact clientCall_withRing (by rw [discharge_withRing]; rfl)
  | abort =>
    refine clientCall_withRing ?_
    by_cases hack : s.ackOwed = true
    · rw [if_pos hack]; exact if_pos hack
    · rw [if_neg hack]; exact if_neg hack
  | maxpay => exact clientCall_withRing rfl
  | rVerify => exact execRVerify_withRing s r w
  | discharge => exact congrArg Host.Outcome.next (discharge_withRing s r w)
  | respond => exact congrArg Host.Outcome.next (respond_withRing s r w)
  | buildData cls p =>
    change andThen (buildData cls p (s.withRing r w)) .next = _
    rw [buildData_withRing]
    exact andThen_onNext _ fun _ => rfl
  | sendTxbuf =>
    change andThen (sendTxbuf (s.withRing r w)) .next = _
    rw [sendTxbuf_withRing]
    exact andThen_onNext _ fun _ => rfl
  | _ => cases hi

/-- An operation that spares the ring is no producer. -/
theorem not_producer_of_sparesRing {i : Instr} (hi : sparesRing i = true) (c : Config) :
    encode c i = none ∧ ∀ b, i ≠ .enq b := by
  cases i with
  | enq | ack | nak | ackAbort | command | data | ping | pingResponse => cases hi
  | _ => exact ⟨rfl, fun _ h => by cases h⟩

/-- R73: such an operation commutes with an `ENQ`. -/
theorem exec_enqueue {i : Instr} (hi : sparesRing i = true) (s : State) (b : Byte) :
    exec i (enqueue s b) = onNext (enqueue · b) (exec i s) := by
  have hcommute := exec_withRing hi s (s.ring.put s.wr b) (cursorNext s.cfg s.wr)
  change exec i (enqueue s b) = _ at hcommute
  rw [hcommute]
  cases h : exec i s with
  | fault f => rfl
  | refused q => rfl
  | next t =>
    obtain ⟨hnone, hnotEnq⟩ := not_producer_of_sparesRing hi s.cfg
    obtain ⟨hring, hwr⟩ := (eachCursorHasOneWriter s t i h).1 hnone hnotEnq
    have hcfg := (exec_effect h).ring_cases.1
    change Host.Outcome.next (t.withRing (s.ring.put s.wr b) (cursorNext s.cfg s.wr)) = .next (enqueue t b)
    rw [← hring, ← hwr, ← hcfg]
    rfl

theorem runOps_singleton (i : Instr) (s : State) : runOps [i] s = exec i s := by
  unfold runOps
  cases exec i s <;> rfl

/-- Settles O56: the second half rests on O6's dequeue at both bounds of the occupancy. -/
theorem enqCommutesWhereItMust : Obligations.EnqCommutesWhereItMust := by
  intro s b h
  refine ⟨fun i hi => ?spares, fun x hfree hlow hhigh hx => ?deq⟩
  case spares =>
    rw [runOps_cons_of_next (exec_enq h.2.1 b), runOps_singleton, exec_enqueue hi]
    cases hexec : exec i s with
    | fault f => simp [runOps, hexec, onNext]
    | refused q => simp [runOps, hexec, onNext]
    | next t =>
      obtain ⟨hnone, hnotEnq⟩ := not_producer_of_sparesRing hi s.cfg
      obtain ⟨-, hwr⟩ := (eachCursorHasOneWriter s t i hexec).1 hnone hnotEnq
      have hcfg := (exec_effect hexec).ring_cases.1
      have hlt : t.wr < t.cfg.cap := by rw [hwr, hcfg]; exact h.2.1
      rw [runOps_cons_of_next hexec, runOps_singleton, exec_enq hlt]
      rfl
  case deq =>
    have hcap := Config.wf_cap_ge h.1
    have hne : s.rd ≠ s.wr := fun heq => by
      have := (ringAvail_eq_zero h).2 heq
      omega
    have hne' : (enqueue s b).rd ≠ (enqueue s b).wr := fun heq => by
      have hzero := (ringAvail_eq_zero (cursorsOk_enqueue h b)).2 heq
      rw [ringAvail_enqueue h, if_neg (by omega)] at hzero
      omega
    have hnext : NextByte s x := ⟨h.1, hne, h.2.2, hx⟩
    have hnext' : NextByte (enqueue s b) x :=
      ⟨h.1, hne', h.2.2, (Memory.get_put_other s.ring s.wr s.rd b hne).trans hx⟩
    have hlt : s.wr < s.cfg.cap := h.2.1
    exact ⟨_, by
      rw [runOps_cons_of_next (exec_enq hlt b), runOps_singleton]
      exact exec_deq_of_nextByte hfree hnext', by
      rw [runOps_cons_of_next (exec_deq_of_nextByte hfree hnext), runOps_singleton]
      exact exec_enq (s := { s with rd := (s.rd + 1) % s.cfg.cap, portRet := .byte x }) hlt b⟩

end Sys2Proof.Machine
end

section
/-! Arrivals read to the end (spec/40_ring_buffer.md, spec/44_session.md R154, R215 to R217): a ring that shows exactly
some bytes, and the runs that take them; O57 and O60. -/

namespace Sys2Proof.Machine

/-- The consumer can see exactly the bytes `bs`, oldest first. -/
def Pending (s : State) (bs : List Byte) : Prop := CursorsOk s ∧ ringContents s = bs.map some

/-- Bytes that fit arrive in an empty ring as they are. -/
theorem pending_foldl_enqueue {s : State} (h : CursorsOk s) (hempty : s.rd = s.wr) {bs : List Byte}
    (hfits : bs.length < s.cfg.cap) : Pending (bs.foldl enqueue s) bs := by
  refine ⟨cursorsOk_foldl_enqueue h bs, ?_⟩
  rw [(ringContents_foldl_enqueue h hempty bs).2, Nat.div_eq_of_lt hfits, Nat.zero_mul, List.drop_zero]

/-- A reader takes the first of the pending bytes. -/
theorem Pending.next {s : State} {b : Byte} {bs : List Byte} (h : Pending s (b :: bs)) :
    NextByte s b ∧ Pending { s with rd := (s.rd + 1) % s.cfg.cap } bs := by
  obtain ⟨hcur, hcontents⟩ := h
  obtain ⟨hnext, hrest⟩ := nextByte_of_ringContents hcur hcontents
  have hadv := advanceRd_eq hcur.1
  exact ⟨hnext, hadv ▸ cursorsOk_advanceRd hcur, hadv ▸ hrest⟩

/-- What is pending depends on the array, the cursors and the configuration only. -/
theorem Pending.congr {s t : State} {bs : List Byte} (h : Pending s bs) (hring : t.ring = s.ring) (hwr : t.wr = s.wr)
    (hrd : t.rd = s.rd) (hcfg : t.cfg = s.cfg) : Pending t bs := by
  obtain ⟨hcur, hcontents⟩ := h
  refine ⟨?_, (ringContents_congr hring hwr hrd hcfg).trans hcontents⟩
  rw [CursorsOk, hcfg, hwr, hrd]
  exact hcur

/-- With nothing pending the ring is empty. -/
theorem Pending.empty {s : State} (h : Pending s []) : s.rd = s.wr := by
  obtain ⟨hcur, hcontents⟩ := h
  rw [← ringAvail_eq_zero hcur, ← ringContents_length, hcontents]
  rfl

/-- R95: a frame's arrival in an empty ring. -/
theorem exec_frame_of_empty {s : State} {i : Instr} {bs : List Byte} (h : CursorsOk s) (hempty : s.rd = s.wr)
    (hi : encode s.cfg i = some bs) (hfits : bs.length < s.cfg.cap) :
    ∃ r w, exec i s = .next { s with ring := r, wr := w } ∧ Pending { s with ring := r, wr := w } bs := by
  have hframe := foldl_enqueue_frame bs s
  have hpending := pending_foldl_enqueue h hempty hfits
  rw [hframe] at hpending
  refine ⟨_, _, ?_, hpending⟩
  rw [← hframe]
  exact (exec_of_encode hi).trans (deliver_next.2 ⟨h.2.1, rfl⟩)

/-- R215: a two-byte reply arrives and its start marker is taken. -/
theorem runOps_reply {s : State} {i : Instr} {c : Byte} (h : CursorsOk s) (hcap : 2 < s.cfg.cap)
    (hempty : s.rd = s.wr) (hst : InStage s .wSeek) (hi : encode s.cfg i = some [s.cfg.sof, c]) :
    ∃ r w d, runOps [i, .wSeek] s = .next { s with ring := r, wr := w, rd := d, stage := .wType } ∧
      Pending { s with ring := r, wr := w, rd := d, stage := .wType } [c] := by
  obtain ⟨r, w, harrive, hpending⟩ := exec_frame_of_empty h hempty hi hcap
  obtain ⟨hnext, hrest⟩ := hpending.next
  have hseek := (exec_wSeek_of_nextByte hnext hst).trans (if_pos rfl)
  exact ⟨r, w, _, (runOps_cons_of_next harrive _).trans (runOps_cons_of_next hseek []), hrest⟩

/-- A NAK arrives and is read (R217). -/
def nakRound : List Instr := [.nak, .wSeek, .wType]

/-- An ACK arrives and is read (R216). -/
def ackRound : List Instr := [.ack, .wSeek, .wType]

/-- R217: one round of an arriving NAK repeats the frame and waits again on an empty ring. -/
theorem runOps_nak_round {s : State} {f : List Byte} (h : CursorsOk s) (hcap : 2 < s.cfg.cap) (hempty : s.rd = s.wr)
    (hst : InStage s .wSeek) (hret : Retains s f) :
    ∃ r w d, runOps nakRound s =
        .next { s with ring := r, wr := w, rd := d, tx := s.tx ++ f, b2b := false } ∧
      Pending { s with ring := r, wr := w, rd := d } [] := by
  obtain ⟨r, w, d, hreply, hpending⟩ := runOps_reply h hcap hempty hst (i := .nak) rfl
  obtain ⟨hnext, hrest⟩ := hpending.next
  have htype := exec_wType_of_nak hnext ⟨rfl, hst.2⟩ (f := f) hret
  refine ⟨r, w, _, ?_, hrest⟩
  rw [show nakRound = [.nak, .wSeek] ++ [.wType] from rfl, runOps_append _ _ hreply,
    runOps_singleton, htype, ← hst.1]

/-- R216: an arriving ACK ends the call. -/
theorem runOps_ack_round {s : State} (h : CursorsOk s) (hcap : 2 < s.cfg.cap) (hempty : s.rd = s.wr)
    (hst : InStage s .wSeek) :
    ∃ r w d, runOps ackRound s =
        .next { s with ring := r, wr := w, rd := d, b2b := false, result := .ok, stage := .idle } ∧
      Pending { s with ring := r, wr := w, rd := d } [] := by
  obtain ⟨r, w, d, hreply, hpending⟩ := runOps_reply h hcap hempty hst (i := .ack) rfl
  obtain ⟨hnext, hrest⟩ := hpending.next
  have htype := exec_wType_of_ack hnext ⟨rfl, hst.2⟩
  refine ⟨r, w, _, ?_, hrest⟩
  rw [show ackRound = [.ack, .wSeek] ++ [.wType] from rfl, runOps_append _ _ hreply,
    runOps_singleton, htype]

/-- R217 by induction on the number of NAKs. -/
theorem runOps_naks_then_ack (n : Nat) {s : State} {f : List Byte} (h : CursorsOk s) (hcap : 2 < s.cfg.cap)
    (hempty : s.rd = s.wr) (hst : InStage s .wSeek) (hret : Retains s f) :
    ∃ r w d, runOps ((List.replicate n nakRound).flatten ++ ackRound) s =
        .next { s with
          ring := r, wr := w, rd := d, tx := s.tx ++ (List.replicate n f).flatten
          b2b := false, result := .ok, stage := .idle } ∧ d = w := by
  induction n generalizing s with
  | zero =>
    obtain ⟨r, w, d, hrun, hdone⟩ := runOps_ack_round h hcap hempty hst
    exact ⟨r, w, d, by simpa using hrun, hdone.empty⟩
  | succ n ih =>
    obtain ⟨r, w, d, hround, hdone⟩ := runOps_nak_round h hcap hempty hst hret
    obtain ⟨r', w', d', hrun, hequal⟩ :=
      ih (s := { s with ring := r, wr := w, rd := d, tx := s.tx ++ f, b2b := false })
        (hdone.congr rfl rfl rfl rfl).1 hcap hdone.empty hst hret
    refine ⟨r', w', d', ?_, hequal⟩
    rw [List.replicate_succ, List.flatten_cons, List.append_assoc, runOps_append _ _ hround, hrun, List.replicate_succ,
      List.flatten_cons, ← List.append_assoc]

/-- Settles O57. -/
theorem nakRetransmissionsRepeatTheSameFrame : Obligations.NakRetransmissionsRepeatTheSameFrame := by
  intro s f n h hcap hempty hst hlen htxCap hbuf
  obtain ⟨r, w, d, hrun, hequal⟩ := runOps_naks_then_ack n h hcap hempty hst (f := f) ⟨hlen, htxCap, hbuf⟩
  exact ⟨_, hrun, rfl, rfl, rfl, rfl, rfl, rfl, rfl, rfl, hequal⟩

/-- R211 inside a `READ`, where nothing is owed: the answer depends on `b2b` alone. -/
theorem respond_of_none_owed {s : State} (hack : s.ackOwed = false) (habort : s.abortOwed = false) :
    respond s = { s with tx := s.tx ++ if s.b2b then [] else responseFrame s.cfg (ownRecord s.cfg) } := by
  split
  next hb2b => rw [respond_of_not_idle (by simp [hb2b]), List.append_nil]
  next hb2b => rw [respond_of_idle ⟨hack, habort, Bool.eq_false_iff.mpr hb2b⟩]

/-- R154 inside a `READ`. -/
theorem exec_rType_of_probe_in_read {s : State} (hnext : NextByte s s.cfg.tPing) (hst : InStage s .rType)
    (hack : s.ackOwed = false) (habort : s.abortOwed = false) : exec .rType s = .next { s with
      rd := (s.rd + 1) % s.cfg.cap, stage := .rSeek
      tx := s.tx ++ if s.b2b then [] else responseFrame s.cfg (ownRecord s.cfg) } := by
  rw [exec_rType_of_probe hnext hst,
    respond_of_none_owed (s := { s with rd := (s.rd + 1) % s.cfg.cap }) hack habort]

/-- Settles O60. -/
theorem probeInAReadIsAnsweredIffNotBackToBack : Obligations.ProbeInAReadIsAnsweredIffNotBackToBack := by
  intro s h hcap hempty hst hack habort
  obtain ⟨r, w, harrive, hpending⟩ := exec_frame_of_empty h hempty (i := .ping) rfl hcap
  obtain ⟨hmarker, hpending⟩ := hpending.next
  have hseek := (exec_rSeek_of_nextByte hmarker hst).trans (if_pos rfl)
  obtain ⟨hprobe, hdone⟩ := hpending.next
  have htype := exec_rType_of_probe_in_read (s := { s with
    ring := r, wr := w, rd := (s.rd + 1) % s.cfg.cap, hdr0 := s.cfg.sof, stage := .rType })
    hprobe ⟨rfl, hst.2⟩ hack habort
  refine ⟨_, (runOps_cons_of_next harrive _).trans ((runOps_cons_of_next hseek _).trans
    (runOps_cons_of_next htype [])), rfl, hdone.empty, ?_⟩
  rw [← hst.1]

end Sys2Proof.Machine
end

section
/-! A data frame read to the end (spec/42_frame_decoder.md, stages 1 to 6): each stage's run takes its bytes and leaves
the rest pending; O58 and O59 from the whole. -/

namespace Sys2Proof.Machine

/-- R7 clause 3: neither class shares the probe's code. -/
theorem classCode_ne_tPing {c : Config} (hwf : c.wf = true) (cls : FrameClass) : classCode c cls ≠ c.tPing := by
  obtain ⟨-, -, -, hnodup, -⟩ := c.wf_iff.1 hwf
  simp only [Config.types, List.nodup_cons, List.mem_cons, not_or] at hnodup
  obtain ⟨-, -, -, ⟨-, hcmd, -⟩, ⟨hdata, -⟩, -⟩ := hnodup
  cases cls
  case cmd => exact hcmd
  case data => exact hdata

/-- The stage steps of a frame up to its checksum field. -/
def headerSteps : List Instr := [.rSeek, .rType, .rLen, .rLen, .rCsum, .rCsum]

/-- Stages 1 and 2: the marker and the expected type. -/
theorem runOps_header {s : State} {rest : List Byte} (hst : InStage s .rSeek)
    (h : Pending s (s.cfg.sof :: classCode s.cfg s.exp :: rest)) :
    ∃ d, runOps [.rSeek, .rType] s = .next { s with
        rd := d, hdr0 := s.cfg.sof, hdr1 := classCode s.cfg s.exp, b2b := false, stage := .rLen, cnt := 0 } ∧
      Pending { s with rd := d } rest := by
  obtain ⟨hmarker, hpending⟩ := h.next
  have hseek := (exec_rSeek_of_nextByte hmarker hst).trans (if_pos rfl)
  obtain ⟨hcode, hrest⟩ := hpending.next
  have htype := exec_rType_of_class (s := { s with
    rd := (s.rd + 1) % s.cfg.cap, hdr0 := s.cfg.sof, stage := .rType }) hcode ⟨rfl, hst.2⟩
    (classCode_ne_tPing h.1.1 s.exp) rfl
  exact ⟨_, (runOps_cons_of_next hseek _).trans (runOps_cons_of_next htype []), hrest⟩

/-- R94: a field assembled low byte first is the field, whatever the register held. -/
theorem setHiByte_setLoByte (v n : U16) : setHiByte (setLoByte v (loByte n)) (hiByte n) = n := by
  simp [setHiByte, setLoByte]

/-- Stage 3: the two bytes of the length. -/
theorem runOps_length {s : State} {n : U16} {rest : List Byte} (hst : InStage s .rLen) (hcnt : s.cnt = 0)
    (h : Pending s (loByte n :: hiByte n :: rest)) :
    ∃ d, runOps [.rLen, .rLen] s = .next (lengthComplete { s with rd := d, lenWire := n }) ∧
      Pending { s with rd := d } rest := by
  obtain ⟨hlow, hpending⟩ := h.next
  have hfirst := exec_rLen_low hlow hst hcnt
  obtain ⟨hhigh, hrest⟩ := hpending.next
  have hone : (1 : U16) ≠ 0 := by decide
  have hsecond := exec_rLen_high (s := { s with
    rd := (s.rd + 1) % s.cfg.cap, lenWire := setLoByte s.lenWire (loByte n), cnt := 1 }) hhigh hst hone
  rw [setHiByte_setLoByte] at hsecond
  exact ⟨_, (runOps_cons_of_next hfirst _).trans (runOps_cons_of_next hsecond []), hrest⟩

/-- Stage 4: the two bytes of the checksum; `RXBUF` is zeroed. -/
theorem runOps_checksum {s : State} {k : U16} {rest : List Byte} (hst : InStage s .rCsum) (hcnt : s.cnt = 0)
    (h : Pending s (loByte k :: hiByte k :: rest)) :
    ∃ d, runOps [.rCsum, .rCsum] s = .next { s with
        rd := d, csumRx := k, rxbuf := s.rxbuf.putAll 0 (List.replicate s.cfg.rxCap 0)
        stage := if s.lenEff = 0 then .rVerify else .rPay, cnt := if s.lenEff = 0 then 1 else 0 } ∧
      Pending { s with rd := d } rest := by
  obtain ⟨hlow, hpending⟩ := h.next
  have hfirst := exec_rCsum_low hlow hst hcnt
  obtain ⟨hhigh, hrest⟩ := hpending.next
  have hone : (1 : U16) ≠ 0 := by decide
  have hsecond := exec_rCsum_high (s := { s with
    rd := (s.rd + 1) % s.cfg.cap, csumRx := setLoByte s.csumRx (loByte k), cnt := 1 }) hhigh hst hone
  rw [setHiByte_setLoByte] at hsecond
  exact ⟨_, (runOps_cons_of_next hfirst _).trans (runOps_cons_of_next hsecond []), hrest⟩

/-- Stage 5 by induction on the bytes to come: they are stored from `cnt` on, and the last one leads to verify. -/
theorem runOps_payload {q : List Byte} (hq : q ≠ []) {s : State} {rest : List Byte} (hst : InStage s .rPay)
    (hlen : s.cnt.toNat + q.length = s.lenEff.toNat) (hcap : s.lenEff.toNat ≤ s.cfg.rxCap)
    (h : Pending s (q ++ rest)) :
    ∃ d c, runOps (List.replicate q.length .rPay) s = .next { s with
        rd := d, rxbuf := s.rxbuf.putAll s.cnt.toNat q, stage := .rVerify, cnt := c } ∧
      Pending { s with rd := d } rest := by
  induction q generalizing s with
  | nil => exact absurd rfl hq
  | cons b q ih =>
    rw [List.length_cons] at hlen
    obtain ⟨hnext, hpending⟩ := h.next
    have hcnt : s.cnt.toNat < s.cfg.rxCap := by omega
    rw [List.length_cons, List.replicate_succ]
    by_cases hlast : q = []
    case pos =>
      subst hlast
      have hstore := exec_rPay_last hnext hst hcnt hlen
      exact ⟨_, _, runOps_cons_of_next hstore [], hpending⟩
    case neg =>
      have hpos := List.length_pos_iff.2 hlast
      have hstore := exec_rPay_more hnext hst hcnt (by omega)
      have hsucc := cnt_succ_toNat h.1.1 hcnt
      have hleft : (s.cnt + 1).toNat + q.length = s.lenEff.toNat := by omega
      obtain ⟨d, c, hrun, hrest⟩ := ih hlast (s := { s with
          rd := (s.rd + 1) % s.cfg.cap, rxbuf := s.rxbuf.put s.cnt.toNat b, cnt := s.cnt + 1 })
        hst hleft hcap hpending
      refine ⟨d, c, ?_, hrest⟩
      rw [runOps_cons_of_next hstore, hrun, hsucc]
      rfl

/-- R63, R156: a length that fits is kept by the clamp, and by either setting of `CRC_LEN_SRC`. -/
theorem clampLen_of_le {c : Config} (hwf : c.wf = true) {n : U16} (hn : n.toNat ≤ c.rxCap) :
    clampLen c n = n ∧ checksumLen c n = n := by
  have hclamp : clampLen c n = n := by
    apply BitVec.eq_of_toNat_eq
    rw [clampLen_toNat hwf, Nat.min_eq_left hn]
  refine ⟨hclamp, ?_⟩
  unfold checksumLen
  cases c.crcLenSrc
  case clamped => exact hclamp
  case wire => rfl

/-- R83 to R85 byte by byte. -/
theorem dataFrame_eq (c : Config) (cls : FrameClass) (k : U16) (p : List Byte) : dataFrame c cls k p =
    c.sof :: classCode c cls :: loByte (BitVec.ofNat 16 p.length) :: hiByte (BitVec.ofNat 16 p.length) ::
      loByte k :: hiByte k :: p := rfl

/-- The state in which a data frame of class `cls`, checksum `k` and payload `p` has been read up to verify. -/
def received (s : State) (cls : FrameClass) (k : U16) (p : List Byte) (r : Memory) (w d : Nat) (c : U16) : State :=
  { s with
    ring := r, wr := w, rd := d, b2b := false, stage := .rVerify, cnt := c
    hdr0 := s.cfg.sof, hdr1 := classCode s.cfg cls
    hdr2 := loByte (BitVec.ofNat 16 p.length), hdr3 := hiByte (BitVec.ofNat 16 p.length)
    lenWire := BitVec.ofNat 16 p.length, lenEff := BitVec.ofNat 16 p.length, csumRx := k
    rxbuf := (s.rxbuf.putAll 0 (List.replicate s.cfg.rxCap 0)).putAll 0 p }

/-- Stages 1 to 5 on a whole frame that fits `RX_CAP`. -/
theorem runOps_stages {s : State} {p : List Byte} {k : U16} (hst : InStage s .rSeek) (hfits : p.length ≤ s.cfg.rxCap)
    (h : Pending s (dataFrame s.cfg s.exp k p)) :
    ∃ d c, runOps (headerSteps ++ List.replicate p.length .rPay) s =
        .next (received s s.exp k p s.ring s.wr d c) ∧ d = s.wr := by
  have hwf := h.1.1
  have hsize := lengthField_toNat (hfits.trans (Config.wf_rxCap hwf))
  obtain ⟨hclamp, hcovered⟩ := clampLen_of_le hwf (hsize.trans_le hfits)
  rw [dataFrame_eq] at h
  obtain ⟨d₁, hheader, h⟩ := runOps_header hst h
  obtain ⟨d₂, hlength, h⟩ := runOps_length (s := { s with
    rd := d₁, hdr0 := s.cfg.sof, hdr1 := classCode s.cfg s.exp, b2b := false, stage := .rLen, cnt := 0 })
    ⟨rfl, hst.2⟩ rfl (h.congr rfl rfl rfl rfl)
  rw [lengthComplete] at hlength
  simp only [hclamp, hcovered] at hlength
  obtain ⟨d₃, hchecksum, h⟩ := runOps_checksum (s := { s with
    rd := d₂, hdr0 := s.cfg.sof, hdr1 := classCode s.cfg s.exp, b2b := false, stage := .rCsum, cnt := 0
    hdr2 := loByte (BitVec.ofNat 16 p.length), hdr3 := hiByte (BitVec.ofNat 16 p.length)
    lenWire := BitVec.ofNat 16 p.length, lenEff := BitVec.ofNat 16 p.length })
    ⟨rfl, hst.2⟩ rfl (h.congr rfl rfl rfl rfl)
  have hfields := (runOps_append _ [.rLen, .rLen, .rCsum, .rCsum] hheader).trans
    ((runOps_append _ [.rCsum, .rCsum] hlength).trans hchecksum)
  by_cases hp : p = []
  case pos =>
    subst hp
    exact ⟨d₃, 1, hfields, h.empty⟩
  case neg =>
    have hnonzero : ¬ BitVec.ofNat 16 p.length = 0 := fun hzero => by
      have hlen := congrArg BitVec.toNat hzero
      rw [hsize] at hlen
      exact hp (List.length_eq_zero_iff.1 hlen)
    simp only [if_neg hnonzero] at hfields
    obtain ⟨d, c, hpayload, hdone⟩ := runOps_payload hp (rest := []) (s := { s with
      rd := d₃, hdr0 := s.cfg.sof, hdr1 := classCode s.cfg s.exp, b2b := false, stage := .rPay, cnt := 0
      hdr2 := loByte (BitVec.ofNat 16 p.length), hdr3 := hiByte (BitVec.ofNat 16 p.length)
      lenWire := BitVec.ofNat 16 p.length, lenEff := BitVec.ofNat 16 p.length, csumRx := k
      rxbuf := s.rxbuf.putAll 0 (List.replicate s.cfg.rxCap 0) }) ⟨rfl, hst.2⟩
      ((Nat.zero_add _).trans hsize.symm) (hsize.trans_le hfits) (by rw [List.append_nil]; exact h.congr rfl rfl rfl rfl)
    exact ⟨d, c, (runOps_append _ _ hfields).trans hpayload, hdone.empty⟩

/-- R158, R159: what `RXBUF` shows after a payload: the payload, then zeros. -/
theorem received_rxbuf_get (m : Memory) {p : List Byte} {n i : Nat} (hi : i < n) :
    ((m.putAll 0 (List.replicate n 0)).putAll 0 p).get i = some (p.getD i 0) := by
  rw [Memory.get_putAll]
  by_cases hp : i < p.length
  · rw [if_pos ⟨Nat.zero_le i, by omega⟩, Nat.sub_zero, List.getElem?_eq_getElem hp, List.getD_eq_getElem _ _ hp]
  · rw [if_neg (by omega), get_zeroed, if_pos hi, List.getD_eq_default _ _ (by omega)]

/-- The whole frame enqueued on an empty ring and read up to verify; verify then runs on the payload sent. -/
theorem runOps_receive {s : State} {p : List Byte} {k : U16} (h : CursorsOk s) (hempty : s.rd = s.wr)
    (hst : InStage s .rSeek) (hfits : p.length ≤ s.cfg.rxCap) (hring : p.length + 6 < s.cfg.cap) :
    ∃ r w d c, runOps ((dataFrame s.cfg s.exp k p).map .enq ++ headerSteps ++ List.replicate p.length .rPay ++
        [.rVerify]) s =
        .next (verifyPayload p (received s s.exp k p r w d c)) ∧ d = w := by
  have hlen : (dataFrame s.cfg s.exp k p).length = 6 + p.length := by
    simp only [dataFrame, frameHeader, le16, List.length_append, List.length_cons, List.length_nil]
  have hpending := pending_foldl_enqueue h hempty (bs := dataFrame s.cfg s.exp k p) (by omega)
  have henq := runOps_map_enq (dataFrame s.cfg s.exp k p) h.1 h.2.1
  rw [foldl_enqueue_frame] at hpending henq
  generalize ((dataFrame s.cfg s.exp k p).foldl enqueue s).ring = r at hpending henq
  generalize ((dataFrame s.cfg s.exp k p).foldl enqueue s).wr = w at hpending henq
  obtain ⟨d, c, hstages, hequal⟩ := runOps_stages (s := { s with ring := r, wr := w }) hst hfits hpending
  refine ⟨r, w, d, c, ?_, hequal⟩
  have hsize := lengthField_toNat (hfits.trans (Config.wf_rxCap h.1))
  have hverify : exec .rVerify (received s s.exp k p r w d c) =
      .next (verifyPayload p (received s s.exp k p r w d c)) :=
    exec_rVerify_of_payload ⟨rfl, hst.2⟩ hsize.symm hfits fun i hi => by
      refine (received_rxbuf_get s.rxbuf (Nat.lt_of_lt_of_le hi hfits)).trans ?_
      rw [List.getD_eq_getElem _ _ hi]
  rw [List.append_assoc, List.append_assoc, runOps_append _ _ henq, ← List.append_assoc, runOps_append _ _ hstages]
  exact (runOps_singleton _ _).trans hverify

/-- R84, R186: the layout depends on the marker and the type codes only. -/
theorem builtFrame_congr {c c' : Config} (hsof : c.sof = c'.sof) (htypes : c.types = c'.types) (cls : FrameClass)
    (p : List Byte) : builtFrame c cls p = builtFrame c' cls p := by
  have hcode : classCode c cls = classCode c' cls := by
    simp only [Config.types, List.cons.injEq] at htypes
    obtain ⟨-, -, -, hcmd, hdata, -⟩ := htypes
    cases cls
    case cmd => exact hcmd
    case data => exact hdata
  simp only [builtFrame, dataFrame, frameHeader, hsof, hcode]

/-- Settles O58: the frame carries the checksum that verify computes. -/
theorem builtFrameIsReceivedIntact : Obligations.BuiltFrameIsReceivedIntact := by
  rintro a s cls p - hp hsof htypes h hempty hst rfl hfits hring
  obtain ⟨r, w, d, c, hrun, hequal⟩ :=
    runOps_receive (k := crc16 (frameHeader s.cfg s.exp p.length ++ p)) h hempty hst hfits hring
  rw [verifyPayload_of_match rfl] at hrun
  change runOps ((builtFrame s.cfg s.exp p).map .enq ++ _ ++ _ ++ _) s = _ at hrun
  rw [← builtFrame_congr hsof htypes] at hrun
  have hsize := lengthField_toNat (hfits.trans (Config.wf_rxCap h.1))
  refine ⟨storeFrame s.exp p a, builtFrame a.cfg s.exp p, _, exec_buildData hp s.exp, builtFrame_length .., ?stored,
    hrun, rfl, rfl, hsize, hsize, fun i hi => received_rxbuf_get s.rxbuf hi, rfl, rfl, rfl, hequal⟩
  case stored =>
    intro i hi
    rw [storeFrame_txbuf_get]
    exact if_pos hi

/-- Settles O59: the checksum verify computes is the right one, so any other takes the NAK arm. -/
theorem corruptedFrameGetsExactlyOneNak : Obligations.CorruptedFrameGetsExactlyOneNak := by
  rintro s cls p k h hempty hst rfl hfits hring hk
  obtain ⟨r, w, d, c, hrun, hequal⟩ := runOps_receive (k := k) h hempty hst hfits hring
  rw [verifyPayload_of_mismatch (Ne.symm hk)] at hrun
  exact ⟨_, hrun, rfl, rfl, rfl, rfl, rfl, rfl, rfl, hequal⟩

end Sys2Proof.Machine
end
